-- ==== Sys2Proof/Word.lean ====
section
/-! DEFINITION. The word types of the ZL740 and their plainest arithmetic. -/

namespace Sys2Proof

/-- One byte: a frame byte, a memory byte, a byte of stream text. -/
abbrev Byte := BitVec 8

/-- The job clock, the audio frame counter and the stamps taken from them (R19): they wrap. -/
abbrev Word32 := BitVec 32

/-- A stroke code (R18): bit i is set when channel i is in the chord. -/
abbrev Code := BitVec 23

/-- One step of a counter that stays at its largest value once it has reached it
(file 00, "Counters"). -/
def satIncr (largest n : Nat) : Nat := min (n + 1) largest

/-- The largest value of the 32-bit counters and sequence numbers, FFFFFFFFh. -/
def max32 : Nat := 0xFFFFFFFF

/-- A value of time, level or count brought to the nearest end of its range
(file 00, "Clamping and refusal"). -/
def clamp (low high n : Nat) : Nat := min (max n low) high

end Sys2Proof
end

