-- ==== Sys2Proof/Syntax.lean ====
section
/-! DEFINITION. The commands of the part: one constructor per row of spec/opcode_table.json. -/

namespace Sys2Proof

/-- The five ports (R115): port 0 is the host's, ports 1 to 4 are the viewer lines. -/
inductive PortId
  | p0 | p1 | p2 | p3 | p4
deriving DecidableEq, Repr

/-- The levels of the 23 key-sense inputs KS0 to KS22 at one evaluation (R4). -/
abbrev Levels := Vector Byte 23

/-- The levels of VPS1 to VPS4 at one sample (R119): bit k is port k + 1, set when a display is
present. -/
abbrev Presence := BitVec 4

/-- A command of the part. A request carries its tag and its whole payload; a SET_PARAM row carries
the payload bytes that follow its identifier (R181). -/
inductive Instr
  /-- START_UP (R189): power-on or RESETN. -/
  | startUp
  /-- START_UP_DEVICE_READY (R168). -/
  | startUpDeviceReady
  /-- START_UP_WAIT_TIMEOUT (R168). -/
  | startUpWaitTimeout
  /-- EVALUATION (R4). -/
  | evaluation (levels : Levels)
  /-- DEBOUNCE_HELD (R6): the evaluation at which channel ch changes state by a debounce line. -/
  | debounceHeld (ch : Fin 23) (levels : Levels)
  /-- STUCK_LIMIT_REACHED (R7): the evaluation at which channel ch becomes STUCK. -/
  | stuckLimitReached (ch : Fin 23) (levels : Levels)
  /-- RELEASE_GUARD_EXPIRY (R16). -/
  | releaseGuardExpiry
  /-- AFRM_EDGE (R19). -/
  | afrmEdge
  /-- FORCED_RESOLUTION_EXPIRY (R81). -/
  | forcedResolutionExpiry
  /-- LINE_SENSE_SAMPLE (R119). -/
  | lineSenseSample (lines : Presence)
  /-- LINE_GAINED (R119): the sample at which the port's line is gained. -/
  | lineGained (port : PortId) (lines : Presence)
  /-- LINE_LOST (R120): the sample at which the port's line is lost. -/
  | lineLost (port : PortId) (lines : Presence)
  /-- PACING_EXPIRY (R126). -/
  | pacingExpiry
  /-- FRAME_COMPLETION (R130) on a viewer port. -/
  | frameCompletion (port : PortId)
  /-- READY_ANSWERED (R161). -/
  | readyAnswered
  /-- TRANSFER_END (R161). -/
  | transferEnd
  /-- READ_COMPLETE (R161). flips: the bits of each byte, first byte first, that the device returned
  wrong; a byte past the list's end was returned right. -/
  | readComplete (flips : List Byte)
  /-- PROGRAM_COMPLETE (R161). -/
  | programComplete
  /-- ERASE_COMPLETE (R161). -/
  | eraseComplete
  /-- READY_TIMEOUT (R162). -/
  | readyTimeout
  /-- COMPLETION_TIMEOUT (R162). -/
  | completionTimeout
  /-- FRAME_DISCARDED (R178). -/
  | frameDiscarded
  /-- REQUEST_DISCARDED (R180): a valid frame with this tag. -/
  | requestDiscarded (tag : Byte)
  /-- BAD_KIND_REQUEST (R180): a valid frame with this KIND and tag. -/
  | badKindRequest (kind tag : Byte)
  /-- LINK_RESYNC (R178). -/
  | linkResync
  /-- MESSAGE_DEPARTURE (R179). -/
  | messageDeparture
  /-- GATHER_TIME_EXPIRY (R183). -/
  | gatherTimeExpiry
  /-- IDENTIFY (R187). -/
  | identify (tag : Byte) (payload : List Byte)
  /-- STATUS (R187). -/
  | status (tag : Byte) (payload : List Byte)
  /-- SET_UP_LEVEL (R3). -/
  | setUpLevel (tag : Byte) (value : List Byte)
  /-- SET_DEBOUNCE_TIME (R2). -/
  | setDebounceTime (tag : Byte) (value : List Byte)
  /-- SET_STUCK_LIMIT (R2). -/
  | setStuckLimit (tag : Byte) (value : List Byte)
  /-- SET_RELEASE_GUARD (R2). -/
  | setReleaseGuard (tag : Byte) (value : List Byte)
  /-- SET_STROKE_COPY (R2). -/
  | setStrokeCopy (tag : Byte) (value : List Byte)
  /-- SET_CORRECTION_DEPTH (R74). -/
  | setCorrectionDepth (tag : Byte) (value : List Byte)
  /-- SET_RESOLVE_PAUSE (R79). -/
  | setResolvePause (tag : Byte) (value : List Byte)
  /-- SET_TRIGGER_LEVEL (R183). -/
  | setTriggerLevel (tag : Byte) (value : List Byte)
  /-- SET_GATHER_TIME (R183). -/
  | setGatherTime (tag : Byte) (value : List Byte)
  /-- SET_JOURNAL_REGION (R136). -/
  | setJournalRegion (tag : Byte) (value : List Byte)
  /-- SET_LOW_THRESHOLD (R147). -/
  | setLowThreshold (tag : Byte) (value : List Byte)
  /-- SET_MARK_TABLE_ENTRY (R75). -/
  | setMarkTableEntry (tag : Byte) (value : List Byte)
  /-- SET_REPORT_MASK (R184). -/
  | setReportMask (tag : Byte) (value : List Byte)
  /-- SET_PARAM_UNKNOWN_IDENTIFIER (R186): payload is the whole payload, its identifier first. -/
  | setParamUnknownIdentifier (tag : Byte) (payload : List Byte)
  /-- GET_PARAM (R186). -/
  | getParam (tag : Byte) (payload : List Byte)
  /-- CHANNEL_SET (R11). -/
  | channelSet (tag : Byte) (payload : List Byte)
  /-- CHANNEL_QUERY (R12). -/
  | channelQuery (tag : Byte) (payload : List Byte)
  /-- FAULT_CLEAR (R10, R121). -/
  | faultClear (tag : Byte) (payload : List Byte)
  /-- LAYER_SET (R40). -/
  | layerSet (tag : Byte) (payload : List Byte)
  /-- LAYER_QUERY (R44). -/
  | layerQuery (tag : Byte) (payload : List Byte)
  /-- STORE_SETTINGS (R188). -/
  | storeSettings (tag : Byte) (payload : List Byte)
  /-- DEFINE (R54). -/
  | define (tag : Byte) (payload : List Byte)
  /-- UNDEFINE (R55). -/
  | undefine (tag : Byte) (payload : List Byte)
  /-- OVERLAY_CLEAR (R56). -/
  | overlayClear (tag : Byte) (payload : List Byte)
  /-- OVERLAY_QUERY (R58). -/
  | overlayQuery (tag : Byte) (payload : List Byte)
  /-- PROFILE_SET (R117). -/
  | profileSet (tag : Byte) (payload : List Byte)
  /-- PORT_SET (R118). -/
  | portSet (tag : Byte) (payload : List Byte)
  /-- PORT_QUERY (R122). -/
  | portQuery (tag : Byte) (payload : List Byte)
  /-- JOB_OPEN (R171). -/
  | jobOpen (tag : Byte) (payload : List Byte)
  /-- JOB_CLOSE (R173). -/
  | jobClose (tag : Byte) (payload : List Byte)
  /-- JOB_ABORT (R175). -/
  | jobAbort (tag : Byte) (payload : List Byte)
  /-- STRIKE (R31). -/
  | strike (tag : Byte) (payload : List Byte)
  /-- MARK (R30). -/
  | mark (tag : Byte) (payload : List Byte)
  /-- JOURNAL_SEEK (R154). -/
  | journalSeek (tag : Byte) (payload : List Byte)
  /-- JOURNAL_READ (R155). -/
  | journalRead (tag : Byte) (payload : List Byte)
  /-- JOURNAL_ERASE (R156). -/
  | journalErase (tag : Byte) (payload : List Byte)
  /-- IMAGE_READ (R165). -/
  | imageRead (tag : Byte) (payload : List Byte)
  /-- IMAGE_WRITE (R166). -/
  | imageWrite (tag : Byte) (payload : List Byte)
  /-- IMAGE_ERASE (R167). -/
  | imageErase (tag : Byte) (payload : List Byte)
  /-- CONDITION_QUERY (R185). -/
  | conditionQuery (tag : Byte) (payload : List Byte)
  /-- CONDITION_CLEAR (R185). -/
  | conditionClear (tag : Byte) (payload : List Byte)
  /-- FRAME_BYTE_RECEIVED (R178). -/
  | frameByteReceived (b : Byte)
  /-- BYTE_CLOCKED_OUT (R179). -/
  | byteClockedOut
deriving DecidableEq, Repr

end Sys2Proof
end

