-- ==== Sys2Proof/Config.lean ====
section
/-! DEFINITION. What one part fixes: its capacities (R187), its times, and the values the manual
leaves open, as constants with no body. -/

namespace Sys2Proof.Config

/-- Key channels (R187). -/
def channelCount : Nat := 23
/-- Ring entries (R22). -/
def ringEntries : Nat := 64
/-- Overlay entries (R52). -/
def overlayEntries : Nat := 512
/-- Strokes of the translation window (R59). -/
def windowStrokes : Nat := 24
/-- Chunk records of the resolved chunk list (R59). -/
def chunkRecords : Nat := 64
/-- Messages of the outbound queue (R182). -/
def queueMessages : Nat := 48
/-- Places of the outbound queue that notices may occupy (R182). -/
def noticePlaces : Nat := 40
/-- Requests that may be outstanding (R180). -/
def outstandingRequests : Nat := 8
/-- Payload bytes of a frame (R178). -/
def framePayload : Nat := 240
/-- Amendments the queue holds (R149). -/
def amendmentPlaces : Nat := 32
/-- Settled bytes retained (R103). -/
def retainedBytes : Nat := 2048
/-- Strokes of the longest dictionary entry (R46). -/
def longestEntry : Nat := 8
/-- Records a dictionary walk examines (R47). -/
def chainLimit : Nat := 32
/-- Bytes of the external memory (R159). -/
def memoryBytes : Nat := 16777216
/-- Bytes of a sector (R159). -/
def sectorBytes : Nat := 4096
/-- Bytes of a program line (R159). -/
def lineBytes : Nat := 256
/-- Sectors of the external memory (R159). -/
def memorySectors : Nat := 4096
/-- The READY_WAIT timeout, 5 ms (R161). -/
def readyTimeout : Nat := 5
/-- The program timeout, 5 ms (R161). -/
def programTimeout : Nat := 5
/-- The erase timeout, 400 ms (R161). -/
def eraseTimeout : Nat := 400
/-- The start-up wait, 400 ms (R168). -/
def startUpWait : Nat := 400

/-- DESIGN CHOICE (log 5). What the n-th byte left behind by cut-off work depends on: R159 lets each
bit that was being cleared be cleared or not, and lets a cut-off erase read as anything. No body:
nothing is known of it. -/
opaque freeByte : Nat → Byte

/-- DESIGN CHOICE (log 7). The 4-byte form of a stream position, a serial or another count past
FFFFFFFFh, which the manual does not give. -/
opaque freeWord : Nat → Word32

/-- DESIGN CHOICE (log 8). The line speed byte that a PORT_QUERY reply and the settings record carry
for port 0, which has no line speed (R115). -/
opaque portZeroSpeed : Byte

/-- DESIGN CHOICE (log 14). The bytes of the settings record past the end of a mark table entry's text,
which the manual does not give. -/
opaque settingsFill : Byte

end Sys2Proof.Config
end

