-- ==== Sys2Proof/Machine/State.lean ====
section
/-! DEFINITION. Everything the manual gives the part, as plain data, one structure per block
(file 00, "Functional Block Overview"), and the part right after reset. -/

namespace Sys2Proof.Machine

/-! ## How a step can stop -/

/-- Why the part stops. It never does: every command of the manual has an effect in every state, or is an
event that cannot occur there and changes nothing (log 9). -/
inductive Fault
deriving DecidableEq, Repr

/-- Why the model refuses a command. -/
inductive Refusal
  /-- Raised by an arm of exec for a command that has no meaning yet. Safe. -/
  | notModelled (mnemonic : String)
deriving DecidableEq, Repr

/-! ## Key sensing unit (R1) -/

/-- The state of a channel (R1). -/
inductive ChannelState
  | up | down | stuck | openCircuit | shortCircuit | disabled
deriving DecidableEq, Repr

/-- A latched key fault (R1). -/
inductive KeyFault
  | noFault | stuck | openCircuit | shortCircuit
deriving DecidableEq, Repr

/-- A channel's reading (R4). -/
inductive Reading
  | up | down | openCircuit | shortCircuit
deriving DecidableEq, Repr

/-- A channel record (R1). -/
structure Channel where
  enable : Bool
  downLevel : Nat
  state : ChannelState
  latch : KeyFault
  lastLevel : Byte
  reading : Reading
  runLength : Nat
  dwell : Nat
deriving DecidableEq, Repr

/-- The channel table, ch0 first (R1). -/
structure Keys where
  channels : List Channel
deriving DecidableEq, Repr

/-! ## Stroke former (chapter 1) -/

/-- The chord state machine's state (section 1.5). -/
inductive ChordState
  | idle | chord | releasing
deriving DecidableEq, Repr

/-- The stroke former's state. -/
structure StrokeFormer where
  state : ChordState
  /-- The chord set: bit i is channel i. -/
  chord : Code
  downTime : Word32
  audioDown : Word32
  /-- When the release guard expires, while it runs. -/
  guardDue : Option Nat
  /-- The evaluation result held (R13, R17): the 23 channel states, ch0 first. -/
  result : List ChannelState
  jobClock : Word32
  audioCount : Word32
  audioSeen : Bool
deriving DecidableEq, Repr

/-! ## Stroke ring (chapter 2) -/

/-- The kind of a ring record (R23). -/
inductive RecordKind
  | stroke | mark | strike
deriving DecidableEq, Repr

/-- A ring record without its gap count and number (R23). -/
structure RecordBody where
  kind : RecordKind
  /-- The stroke code, the mark number, or 0. -/
  value : Code
  correction : Bool
  degraded : Bool
  downTime : Word32
  closeTime : Word32
  /-- Audio down and audio close, present or absent together (R19). -/
  audio : Option (Word32 × Word32)
deriving DecidableEq, Repr

/-- A record in the holding slot (R25): its gap count is fixed, its number is not given yet. -/
structure HeldRecord where
  gap : Nat
  body : RecordBody
deriving DecidableEq, Repr

/-- A record in a ring entry (R23). -/
structure RingRecord where
  seq : Nat
  gap : Nat
  body : RecordBody
deriving DecidableEq, Repr

/-- The stroke ring (R22). -/
structure Ring where
  /-- Oldest first. -/
  entries : List RingRecord
  holding : Option HeldRecord
  nextSeq : Nat
  translationCursor : Nat
  journalCursor : Nat
  gap : Nat
  lost : Nat
deriving DecidableEq, Repr

/-! ## Dictionary unit (chapter 3) -/

/-- The external layers (R35). -/
inductive LayerId
  | l1 | l2 | l3
deriving DecidableEq, Repr

/-- A record of the layer table (R35). -/
structure Layer where
  base : Nat
  count : Nat
  enable : Bool
  valid : Bool
  checkPending : Bool
  bucketBits : Nat
  entryCount : Nat
  imageLength : Nat
  faultCount : Nat
deriving DecidableEq, Repr

/-- An overlay entry (R52). -/
structure OverlayEntry where
  sequence : List Code
  flags : Byte
  text : List Byte
deriving DecidableEq, Repr

/-- A lookup's text decision (R46). -/
inductive TextDecision
  | undecided
  | suppressed
  | text (flags : Byte) (bytes : List Byte)
deriving DecidableEq, Repr

/-- The result of a lookup (R46). -/
structure LookupResult where
  decision : TextDecision
  continuation : Bool
  fault : Bool
deriving DecidableEq, Repr

/-- Where a walk of one layer stands (R47): which read is in hand. examined counts the records
already found not to match. -/
inductive WalkStage
  | slot
  | fixedPart (offset examined : Nat)
  | remainder (offset examined : Nat) (fixedBytes : List Byte)
deriving DecidableEq, Repr

/-- A lookup in progress (R46). -/
structure Lookup where
  sequence : List Code
  result : LookupResult
  layer : LayerId
  /-- The layers after this one, in priority order. -/
  later : List LayerId
  stage : WalkStage
deriving DecidableEq, Repr

/-- The dictionary unit. -/
structure Dict where
  layer1 : Layer
  layer2 : Layer
  layer3 : Layer
  overlay : List OverlayEntry
  lookup : Option Lookup
deriving DecidableEq, Repr

/-! ## Translation engine (chapter 4) -/

/-- The engine's state (R59). -/
inductive EngineState
  | idle | waiting | evaluating | stalled | draining
deriving DecidableEq, Repr

/-- A stroke of the window or of a chunk (R59, R69). -/
structure StrokeEntry where
  seq : Nat
  code : Code
deriving DecidableEq, Repr

/-- The carry state (R67). -/
structure Carry where
  attach : Bool
  cap : Bool
deriving DecidableEq, Repr

/-- The kind of a chunk (R69). -/
inductive ChunkKind
  | entry | untranslate | mark
deriving DecidableEq, Repr

/-- A held MARK record (R76). -/
structure HeldMark where
  seq : Nat
  number : Nat
deriving DecidableEq, Repr

/-- A chunk record (R69). -/
structure Chunk where
  kind : ChunkKind
  /-- The source strokes; none for a MARK. -/
  strokes : List StrokeEntry
  /-- The source MARK record; none for the other kinds. -/
  markSource : Option HeldMark
  flags : Byte
  start : Nat
  /-- The joined text. -/
  text : List Byte
  carryIn : Carry
  carryOut : Carry
  afterCount : Nat
  /-- OPEN when set, CLOSED when clear. -/
  isOpen : Bool
  unrecorded : Bool
deriving DecidableEq, Repr

/-- What an evaluation has decided for some strokes, before it is joined (R64, R66): a chunk to be,
or a provisional piece. -/
structure Resolved where
  kind : ChunkKind
  strokes : List StrokeEntry
  flags : Byte
  raw : List Byte
deriving DecidableEq, Repr

/-- An evaluation in flight (R63). -/
structure EvalRun where
  forced : Bool
  /-- The strokes not yet resolved. -/
  work : List StrokeEntry
  /-- The chunks resolved so far, in order. -/
  resolved : List Resolved
  cut : Bool
  /-- Resolution has ended and the provisional parse is under way. -/
  parsing : Bool
  /-- The answers obtained in this evaluation. -/
  answers : List (List Code × LookupResult)
deriving DecidableEq, Repr

/-- The translation engine (R59). -/
structure Engine where
  state : EngineState
  window : List StrokeEntry
  cache : List (List Code × LookupResult)
  chunks : List Chunk
  carry : Carry
  resolvedEnd : Nat
  tail : List Byte
  /-- When the forced-resolution timer expires, while it runs. -/
  timerDue : Option Nat
  forceOwed : Bool
  heldMark : Option HeldMark
  closeMark : Bool
  reevaluationPending : Bool
  reachBackPending : Bool
  /-- The evaluation in flight. -/
  run : Option EvalRun
deriving DecidableEq, Repr

/-! ## Text stream (chapter 6) -/

/-- The journal's mode (R137). -/
inductive JournalMode
  | idle | running | passing
deriving DecidableEq, Repr

/-- The text stream (R103). -/
structure Stream where
  length : Nat
  settled : Nat
  /-- The refresh store. -/
  store : List Byte
  durableSeen : Option Nat
  modeSeen : JournalMode
  unrecordedPoint : Option Nat
deriving DecidableEq, Repr

/-! ## Feed unit (chapter 7) -/

/-- The three profiles (R116). -/
inductive ProfileId
  | a | b | c
deriving DecidableEq, Repr

/-- A profile's mode (R116). -/
inductive ProfileMode
  | live | settled
deriving DecidableEq, Repr

/-- A profile record (R116). -/
structure Profile where
  mode : ProfileMode
  rate : Nat
  burst : Nat
  hold : Bool
  refreshDepth : Nat
deriving DecidableEq, Repr

/-- A port's state (R115). -/
inductive PortState
  | off | detached | refreshing | following
deriving DecidableEq, Repr

/-- A viewer line's speed (R115). -/
inductive LineSpeed
  | s9600 | s19200 | s38400 | s57600 | s115200
deriving DecidableEq, Repr

/-- A frame on a viewer line (R129, R130), with the speed it is sent at (R118). Its bits on the line are
LineFrame.bits. -/
structure LineFrame where
  bytes : List Byte
  speed : LineSpeed
deriving DecidableEq, Repr

/-- A port record (R115). For port 0 the line fields are not used. -/
structure Port where
  enable : Bool
  profile : ProfileId
  speed : LineSpeed
  state : PortState
  base : Nat
  displayed : Nat
  valid : Nat
  settledSent : Nat
  credit : Nat
  senseReading : Bool
  senseRun : Nat
  linePresent : Bool
  lineFault : Bool
  frame : Option LineFrame
deriving DecidableEq, Repr

/-- The feed unit. -/
structure Feeds where
  profileA : Profile
  profileB : Profile
  profileC : Profile
  port0 : Port
  port1 : Port
  port2 : Port
  port3 : Port
  port4 : Port
deriving DecidableEq, Repr

/-! ## Journal controller (chapter 8) -/

/-- A sector's class (R137). -/
inductive SectorClass
  | blank | inUse | retired
deriving DecidableEq, Repr

/-- A row of the sector table (R137). -/
structure SectorRow where
  cls : SectorClass
  serial : Option Nat
deriving DecidableEq, Repr

/-- The cause of PASSING (R137). -/
inductive JournalCause
  | noCause | failed | exhausted
deriving DecidableEq, Repr

/-- The kind of a journal record (section 8.2). -/
inductive JournalKind
  | jobOpen | jobClose | stroke | mark | strike
deriving DecidableEq, Repr

/-- A journal record's content (R138), without its job number and check. -/
structure JournalRecord where
  kind : JournalKind
  correction : Bool
  degraded : Bool
  gap : Nat
  seq : Nat
  body : Nat
  downTime : Word32
  closeTime : Word32
  audio : Option (Word32 × Word32)
deriving DecidableEq, Repr

/-- The write of a record into a slot (R140). -/
structure RecordWrite where
  sector : Nat
  slot : Nat
  record : JournalRecord
  rewrite : Bool
deriving DecidableEq, Repr

/-- The four steps of a write (R140). -/
inductive WriteStep
  | program | verify | commit | check
deriving DecidableEq, Repr

/-- What the journal controller is doing at the memory port. Sectors are named by their index within
the region. -/
inductive JournalOp
  /-- WAITING. -/
  | waiting
  /-- PROGRAMMING, VERIFYING or COMMITTING a record (R140). -/
  | record (w : RecordWrite) (step : WriteStep)
  /-- VOIDING a failed copy (R142): its program, then (reading set) its read-back. -/
  | voidRecord (w : RecordWrite) (reading : Bool)
  /-- VOIDING the header of a sector being retired (R143). -/
  | retire (sector : Nat) (reading : Bool)
  /-- OPENING_SECTOR (R144): the header's bytes as programmed. -/
  | header (sector : Nat) (bytes : List Byte) (step : WriteStep)
  /-- VOIDING a header whose write failed (R144). -/
  | voidHeader (sector : Nat) (reading : Bool)
  /-- AMENDING, step 1 (R150): the slot being read, and the sectors still to search. -/
  | locate (seq sector slot : Nat) (later : List Nat)
  /-- AMENDING, steps 2 and 3 (R150): the slot, its CORRECTED program, then its read-back. -/
  | correct (sector slot : Nat) (reading : Bool)
  /-- SEEKING_NEXT (R145): the seek is an item of the link-side queue. -/
  | seeking
  /-- The VOID program of a job abort (R153, R164). -/
  | abortVoid
deriving DecidableEq, Repr

/-- Where the recovery scan stands (R157). -/
inductive ScanStage
  /-- Step 1: sector by index; slot 1 is read when slot1 is set. -/
  | classify (sector : Nat) (slot1 : Bool)
  /-- Step 2: slot k of the current sector; the status of each earlier slot and whether it is all
  FFh, slot 1 first. -/
  | slots (k : Nat) (seen : List (Byte × Bool))
  /-- Step 3: the slots of the current sector still to be voided. -/
  | voids (todo : List Nat)
  /-- Step 5: the slot being read, and the sectors still to search. -/
  | latest (sector slot : Nat) (later : List Nat)
deriving DecidableEq, Repr

/-- The reply owed when the scan ends. -/
inductive ScanReply
  /-- To a change of region (R136). -/
  | region (tag : Byte)
  /-- To a JOURNAL_ERASE, with the sectors erased (R156). -/
  | erase (tag : Byte) (erased : Nat)
deriving DecidableEq, Repr

/-- The journal controller (R137). -/
structure Journal where
  sectors : List SectorRow
  highestSerial : Nat
  current : Option Nat
  appendPoint : Nat
  /-- MODEL: the slot at the append point holds a failed copy and a job abort leaves the append point after it (log 58). -/
  slotSpent : Bool
  nextSector : Option Nat
  blankCount : Nat
  mode : JournalMode
  cause : JournalCause
  memoryFailed : Bool
  op : JournalOp
  durable : Option Nat
  consecutiveFailures : Nat
  sectorFailures : Nat
  amendments : List Nat
  amendmentsDropped : Nat
  closePending : Bool
  jobNumber : Nat
  unclosedJob : Option Nat
  cursorSector : Nat
  cursorSlot : Nat
  /-- The JOB_OPEN record is not yet written (R141 item 3). -/
  jobOpenDue : Bool
  /-- The record that is to be written again (R142). -/
  rewriteDue : Option JournalRecord
  scan : Option ScanStage
  scanReplies : List ScanReply
  /-- Abort work is unfinished (R153). -/
  aborting : Bool
deriving DecidableEq, Repr

/-! ## Memory port and external memory (chapter 9) -/

/-- An operation (R160). -/
inductive MemOp
  | read (addr len : Nat)
  | program (addr : Nat) (bytes : List Byte)
  | erase (sector : Nat)
deriving DecidableEq, Repr

/-- The requesters (R163). -/
inductive Requester
  | journal | translation | link
deriving DecidableEq, Repr

/-- The port state (R161). -/
inductive MemPortState
  | starting | idle | busy
deriving DecidableEq, Repr

/-- The phase of the operation in flight (R161). -/
inductive Phase
  | readyWait | transfer | busyWait
deriving DecidableEq, Repr

/-- The operation in flight (R161). -/
structure InFlight where
  op : MemOp
  requester : Requester
  phase : Phase
  deadline : Nat
  /-- The requester no longer wants the outcome (R51, R145, R153). -/
  dropped : Bool
deriving DecidableEq, Repr

/-- An item of the link-side queue with its progress (R163). -/
inductive LinkItem
  /-- The settings load of start-up (R189), with the outcomes of the READs that have ended, in order: the bytes
  read, or none for a timeout. -/
  | settingsLoad (parts : List (Option (List Byte)))
  /-- LAYER_SET (R40, R41). -/
  | layerSet (tag : Byte) (layer : LayerId) (base count : Nat) (enable : Bool)
  /-- A job open's layer validation (R42): the layers still to read. -/
  | validation (layers : List LayerId)
  /-- IMAGE_READ (R165). -/
  | imageRead (tag : Byte) (addr len : Nat)
  /-- IMAGE_WRITE (R166): its READ follows when reading is set. -/
  | imageWrite (tag : Byte) (addr : Nat) (bytes : List Byte) (reading : Bool)
  /-- IMAGE_ERASE (R167). -/
  | imageErase (tag : Byte) (sector : Nat)
  /-- JOURNAL_SEEK (R154): the sector being searched, its slot (0 is the header), whether its header
  names the job with a first sequence at or below the one sought, and the sectors after it. -/
  | journalSeek (tag : Byte) (job seq sector slot : Nat) (headerNames : Bool) (later : List Nat)
  /-- JOURNAL_READ (R155): how many records are still wanted, and those read, oldest first. -/
  | journalRead (tag : Byte) (wanted : Nat) (got : List (List Byte))
  /-- JOURNAL_ERASE (R156): the sectors still to erase and the count erased. -/
  | journalErase (tag : Byte) (todo : List Nat) (erased : Nat)
  /-- A next-sector seek (R145): the candidates left, whether slot 0 of the first was all FFh (none:
  not yet read), and whether finding none makes the mode PASSING (R146). -/
  | nextSeek (candidates : List Nat) (slot0Blank : Option Bool) (final : Bool)
  /-- STORE_SETTINGS (R188): the record, and how many of its seven operations have ended. -/
  | storeSettings (tag : Byte) (record : List Byte) (done : Nat) (same : Bool)
deriving DecidableEq, Repr

/-- The memory port (R161, R163). -/
structure MemPort where
  state : MemPortState
  inFlight : Option InFlight
  /-- When the start-up wait ends (R168). -/
  startDeadline : Nat
  deviceReady : Bool
  faultCount : Nat
  journalRequest : Option MemOp
  translationRequest : Option MemOp
  linkRequest : Option MemOp
  /-- The link-side queue, head first. -/
  items : List LinkItem
  /-- The head item has been begun. -/
  headBegun : Bool
deriving DecidableEq, Repr

/-- The external memory device (R159). -/
structure Device where
  /-- The bytes that do not read FFh, addresses strictly rising. -/
  mem : List Host.Cell
  /-- Work that was cut off and that the device may still be running (R159, R162). -/
  unfinished : Option MemOp
  /-- MODEL: the index of the next free byte (log 5). -/
  freeIndex : Nat
deriving DecidableEq, Repr

/-! ## Job controller (chapter 10) -/

/-- The job state (R170). -/
inductive JobState
  | booting | noJob | opened | closing
deriving DecidableEq, Repr

/-- A JOB_OPEN being validated (R171), with the journal's answer: ready, or the cause. -/
structure OpenPending where
  tag : Byte
  jobNumber : Nat
  allowUnrecorded : Bool
  answer : JournalCause
deriving DecidableEq, Repr

/-- A JOB_ABORT awaiting the journal (R175). -/
structure AbortPending where
  tag : Byte
  abandoned : Nat
deriving DecidableEq, Repr

/-- The job controller (R170). -/
structure Job where
  state : JobState
  number : Nat
  openPending : Option OpenPending
  closePending : Option Byte
  translationDrained : Bool
  abortPending : Option AbortPending
  discarded : Nat
deriving DecidableEq, Repr

/-! ## Link controller (chapter 11) -/

/-- A message of the outbound queue (R179, R182): its whole frame. -/
structure Message where
  isReply : Bool
  bytes : List Byte
  /-- Bytes already clocked out. -/
  sent : Nat
  queuedAt : Nat
deriving DecidableEq, Repr

/-- The receive framer (R178): HUNTING, or IN_FRAME with the bytes taken after A6h. -/
inductive Framer
  | hunting
  | inFrame (taken : List Byte)
deriving DecidableEq, Repr

/-- The link controller. -/
structure Link where
  framer : Framer
  /-- The outbound queue, oldest first. -/
  queue : List Message
  outstanding : Nat
  /-- The condition set (R184), each by the set values of section 11.4. -/
  conditionsPending : Byte
  notified : Byte
  notifyPending : Byte
  linkFaults : Nat
  noticesDropped : Nat
  defaultsInUse : Bool
  /-- The ATTN line. -/
  attn : Bool
  /-- The byte last clocked out on SDO. -/
  sdo : Byte
deriving DecidableEq, Repr

/-- A mark table entry that is set (R75). -/
structure MarkEntry where
  flags : Byte
  text : List Byte
deriving DecidableEq, Repr

/-- The parameter store (R186). -/
structure Params where
  upLevel : Nat
  debounce : Nat
  stuckLimit : Nat
  releaseGuard : Nat
  strokeCopy : Bool
  depth : Nat
  resolvePause : Nat
  trigger : Nat
  gather : Nat
  journalBase : Nat
  journalCount : Nat
  lowThreshold : Nat
  /-- The 16 entries, mark 0 first; none is unset. -/
  marks : List (Option MarkEntry)
  reportMask : Byte
deriving DecidableEq, Repr

/-! ## The whole part -/

/-- The start-up step reached (R189). -/
inductive BootStep
  | readyWait | settingsLoad | recoveryScan | done
deriving DecidableEq, Repr

/-- The part's state. -/
structure State where
  keys : Keys
  former : StrokeFormer
  ring : Ring
  dict : Dict
  engine : Engine
  stream : Stream
  feeds : Feeds
  journal : Journal
  port : MemPort
  device : Device
  job : Job
  link : Link
  params : Params
  boot : BootStep
  /-- VPS1 to VPS4 as last sampled. -/
  presence : Presence
  /-- MODEL: milliseconds passed (log 2). -/
  now : Nat
  /-- MODEL: the commands that are waiting, first in, first out (log 1). -/
  pending : List Instr
deriving DecidableEq, Repr

/-! ## Updates of one block -/

/-- The state with its channel table changed. -/
def State.mapKeys (s : State) (f : Keys → Keys) : State := { s with keys := f s.keys }
/-- The state with its stroke former changed. -/
def State.mapFormer (s : State) (f : StrokeFormer → StrokeFormer) : State := { s with former := f s.former }
/-- The state with its stroke ring changed. -/
def State.mapRing (s : State) (f : Ring → Ring) : State := { s with ring := f s.ring }
/-- The state with its dictionary unit changed. -/
def State.mapDict (s : State) (f : Dict → Dict) : State := { s with dict := f s.dict }
/-- The state with its translation engine changed. -/
def State.mapEngine (s : State) (f : Engine → Engine) : State := { s with engine := f s.engine }
/-- The state with its text stream changed. -/
def State.mapStream (s : State) (f : Stream → Stream) : State := { s with stream := f s.stream }
/-- The state with its feed unit changed. -/
def State.mapFeeds (s : State) (f : Feeds → Feeds) : State := { s with feeds := f s.feeds }
/-- The state with its journal controller changed. -/
def State.mapJournal (s : State) (f : Journal → Journal) : State := { s with journal := f s.journal }
/-- The state with its memory port changed. -/
def State.mapPort (s : State) (f : MemPort → MemPort) : State := { s with port := f s.port }
/-- The state with its external memory device changed. -/
def State.mapDevice (s : State) (f : Device → Device) : State := { s with device := f s.device }
/-- The state with its job controller changed. -/
def State.mapJob (s : State) (f : Job → Job) : State := { s with job := f s.job }
/-- The state with its link controller changed. -/
def State.mapLink (s : State) (f : Link → Link) : State := { s with link := f s.link }
/-- The state with its parameter store changed. -/
def State.mapParams (s : State) (f : Params → Params) : State := { s with params := f s.params }
/-- The state with its start-up step set. -/
def State.setBoot (s : State) (b : BootStep) : State := { s with boot := b }

/-! ## Reset -/

/-- A channel record at start-up with the default enable and down level (R1). -/
def Channel.reset : Channel where
  enable := true
  downLevel := 160
  state := .up
  latch := .noFault
  lastLevel := 0
  reading := .up
  runLength := 0
  dwell := 0

/-- The stroke former at start-up (section 1.5, R19). The stamps and the result held have no stated
value: DESIGN CHOICE (log 3). -/
def StrokeFormer.reset : StrokeFormer where
  state := .idle
  chord := 0
  downTime := 0
  audioDown := 0
  guardDue := none
  result := List.replicate 23 .up
  jobClock := 0
  audioCount := 0
  audioSeen := false

/-- The stroke ring at start-up (R22), and at job open (R32). -/
def Ring.reset : Ring where
  entries := []
  holding := none
  nextSeq := 1
  translationCursor := 1
  journalCursor := 1
  gap := 0
  lost := 0

/-- A layer record at start-up with the default region and enable (R35). -/
def Layer.reset : Layer where
  base := 0
  count := 0
  enable := false
  valid := false
  checkPending := false
  bucketBits := 8
  entryCount := 0
  imageLength := 0
  faultCount := 0

/-- The dictionary unit at start-up (R35, R52). -/
def Dict.reset : Dict where
  layer1 := Layer.reset
  layer2 := Layer.reset
  layer3 := Layer.reset
  overlay := []
  lookup := none

/-- The translation engine at start-up (R59). -/
def Engine.reset : Engine where
  state := .idle
  window := []
  cache := []
  chunks := []
  carry := ⟨false, false⟩
  resolvedEnd := 0
  tail := []
  timerDue := none
  forceOwed := false
  heldMark := none
  closeMark := false
  reevaluationPending := false
  reachBackPending := false
  run := none

/-- The text stream at start-up (R103). -/
def Stream.reset : Stream where
  length := 0
  settled := 0
  store := []
  durableSeen := none
  modeSeen := .idle
  unrecordedPoint := none

/-- The default profile A (R116). -/
def Profile.defaultA : Profile := ⟨.settled, 120, 8, false, 512⟩
/-- The default profile B (R116). -/
def Profile.defaultB : Profile := ⟨.live, 240, 16, false, 1024⟩
/-- The default profile C (R116). -/
def Profile.defaultC : Profile := ⟨.live, 960, 64, false, 2048⟩

/-- A port record at start-up with its default enable and speed (R115). The sense fields wait for the
first sample (R119): DESIGN CHOICE until then (log 3). -/
def Port.reset (profile : ProfileId) : Port where
  enable := true
  profile := profile
  speed := .s38400
  state := .off
  base := 0
  displayed := 0
  valid := 0
  settledSent := 0
  credit := 0
  senseReading := false
  senseRun := 0
  linePresent := false
  lineFault := false
  frame := none

/-- The feed unit at start-up (R115, R116). -/
def Feeds.reset : Feeds where
  profileA := .defaultA
  profileB := .defaultB
  profileC := .defaultC
  port0 := .reset .c
  port1 := .reset .a
  port2 := .reset .a
  port3 := .reset .a
  port4 := .reset .a

/-- The journal controller at start-up, before the scan (R137), for a region of count sectors. -/
def Journal.reset (count : Nat) : Journal where
  sectors := List.replicate count ⟨.blank, none⟩
  highestSerial := 0
  current := none
  appendPoint := 1
  slotSpent := false
  nextSector := none
  blankCount := 0
  mode := .idle
  cause := .noCause
  memoryFailed := false
  op := .waiting
  durable := none
  consecutiveFailures := 0
  sectorFailures := 0
  amendments := []
  amendmentsDropped := 0
  closePending := false
  jobNumber := 0
  unclosedJob := none
  cursorSector := 0
  cursorSlot := 1
  jobOpenDue := false
  rewriteDue := none
  scan := none
  scanReplies := []
  aborting := false

/-- The memory port at start-up, the start-up wait begun at the time given (R161, R168). -/
def MemPort.reset (now : Nat) : MemPort where
  state := .starting
  inFlight := none
  startDeadline := now + Config.startUpWait
  deviceReady := false
  faultCount := 0
  journalRequest := none
  translationRequest := none
  linkRequest := none
  items := []
  headBegun := false

/-- A device with nothing listed and nothing unfinished (log 4). -/
def Device.reset : Device where
  mem := []
  unfinished := none
  freeIndex := 0

/-- The job controller at start-up (R170). -/
def Job.reset : Job where
  state := .booting
  number := 0
  openPending := none
  closePending := none
  translationDrained := false
  abortPending := none
  discarded := 0

/-- The link controller at start-up (R178, R184, R189). SDO has no stated value: DESIGN CHOICE
(log 3). -/
def Link.reset : Link where
  framer := .hunting
  queue := []
  outstanding := 0
  conditionsPending := 0
  notified := 0
  notifyPending := 0
  linkFaults := 0
  noticesDropped := 0
  defaultsInUse := true
  attn := false
  sdo := 0

/-- The parameter store with every parameter at its default (R186). -/
def Params.reset : Params where
  upLevel := 96
  debounce := 4
  stuckLimit := 2000
  releaseGuard := 12
  strokeCopy := false
  depth := 4
  resolvePause := 1500
  trigger := 4
  gather := 10
  journalBase := 3072
  journalCount := 1024
  lowThreshold := 8
  marks := List.replicate 16 none
  reportMask := 0

/-- The part right after reset, at the time given, on a device and under presence lines that reset does
not touch. -/
def State.startUp (device : Device) (presence : Presence) (now : Nat) (pending : List Instr) : State where
  keys := ⟨List.replicate 23 Channel.reset⟩
  former := .reset
  ring := .reset
  dict := .reset
  engine := .reset
  stream := .reset
  feeds := .reset
  journal := .reset 1024
  port := .reset now
  device := device
  job := .reset
  link := .reset
  params := .reset
  boot := .readyWait
  presence := presence
  now := now
  pending := pending

/-- The part right after reset, with nothing in its memory, no display present and an empty queue. -/
def State.reset : State := State.startUp Device.reset 0 0 []

end Sys2Proof.Machine
end

