-- ==== Sys2Proof/Machine/Operands.lean ====
section
/-! DEFINITION. The software-visible forms: byte order, the CRC-16, enumeration codes, and the fields
of payloads and records (file 00 "Byte order", R181). -/

namespace Sys2Proof.Machine

/-! ## Byte order: most significant byte first -/

/-- One byte holding a value below 256. -/
def be8 (n : Nat) : List Byte := [BitVec.ofNat 8 n]

/-- Two bytes, most significant first. -/
def be16 (n : Nat) : List Byte := [BitVec.ofNat 8 (n / 0x100), BitVec.ofNat 8 n]

/-- Three bytes, most significant first. -/
def be24 (n : Nat) : List Byte :=
  [BitVec.ofNat 8 (n / 0x10000), BitVec.ofNat 8 (n / 0x100), BitVec.ofNat 8 n]

/-- Four bytes of a 32-bit word, most significant first. -/
def beWord (w : Word32) : List Byte :=
  [w.extractLsb' 24 8, w.extractLsb' 16 8, w.extractLsb' 8 8, w.extractLsb' 0 8]

/-- Four bytes, most significant first. A value past FFFFFFFFh has no stated form: DESIGN CHOICE, a
free word (log 7). -/
def be32 (n : Nat) : List Byte :=
  if n ≤ max32 then beWord (BitVec.ofNat 32 n) else beWord (Config.freeWord n)

/-- The value of bytes, most significant first. -/
def beValue (bs : List Byte) : Nat := bs.foldl (fun n b => n * 256 + b.toNat) 0

/-- The byte at a place, 0 past the end. -/
def byteAt (bs : List Byte) (i : Nat) : Byte := bs.getD i 0

/-- The value of n bytes from a place on, most significant first. -/
def fieldAt (bs : List Byte) (start n : Nat) : Nat := beValue ((bs.drop start).take n)

/-- The bytes at least as long as a count, filled up with FFh or cut. -/
def fillTo (n : Nat) (bs : List Byte) : List Byte := (bs ++ List.replicate n 0xFF).take n

/-! ## CRC-16 (section 11.1, section 8.2) -/

/-- One data bit, most significant first, into the register: polynomial 1021h. -/
def crcBit (reg : BitVec 16) (bit : Bool) : BitVec 16 :=
  if reg.msb != bit then (reg <<< 1) ^^^ 0x1021#16 else reg <<< 1

/-- One data byte into the register. -/
def crcByte (reg : BitVec 16) (b : Byte) : BitVec 16 :=
  (List.range 8).foldl (fun r i => crcBit r (b.getLsbD (7 - i))) reg

/-- The CRC-16 of bytes: initial register FFFFh, no final inversion. -/
def crc16 (bs : List Byte) : BitVec 16 := bs.foldl crcByte 0xFFFF#16

/-- The check's two bytes, most significant first. -/
def crcBytes (bs : List Byte) : List Byte := be16 (crc16 bs).toNat

/-! ## Enumeration codes (R181) -/

/-- Set, enabled, on or true is 01h; clear is 00h. -/
def boolCode (b : Bool) : Byte := if b then 1 else 0

/-- A set/clear field; none when out of range. -/
def boolOf (b : Byte) : Option Bool :=
  if b = 0 then some false else if b = 1 then some true else none

def profileOf (b : Byte) : Option ProfileId :=
  if b = 0 then some .a else if b = 1 then some .b else if b = 2 then some .c else none

def profileCode : ProfileId → Byte
  | .a => 0 | .b => 1 | .c => 2

def modeOf (b : Byte) : Option ProfileMode :=
  if b = 0 then some .live else if b = 1 then some .settled else none

def modeCode : ProfileMode → Byte
  | .live => 0 | .settled => 1

def speedOf (b : Byte) : Option LineSpeed :=
  if b = 0 then some .s9600 else if b = 1 then some .s19200 else if b = 2 then some .s38400
  else if b = 3 then some .s57600 else if b = 4 then some .s115200 else none

def speedCode : LineSpeed → Byte
  | .s9600 => 0 | .s19200 => 1 | .s38400 => 2 | .s57600 => 3 | .s115200 => 4

def channelStateCode : ChannelState → Byte
  | .up => 0 | .down => 1 | .stuck => 2 | .openCircuit => 3 | .shortCircuit => 4 | .disabled => 5

def keyFaultCode : KeyFault → Byte
  | .noFault => 0 | .stuck => 1 | .openCircuit => 2 | .shortCircuit => 3

def portStateCode : PortState → Byte
  | .off => 0 | .detached => 1 | .refreshing => 2 | .following => 3

def jobStateCode : JobState → Byte
  | .booting => 0 | .noJob => 1 | .opened => 2 | .closing => 3

def journalModeCode : JournalMode → Byte
  | .idle => 0 | .running => 1 | .passing => 2

def journalCauseCode : JournalCause → Byte
  | .noCause => 0 | .failed => 1 | .exhausted => 2

/-! ## Reply codes (R180) -/

/-- The outcome of a request. -/
inductive ReplyCode
  | ok | busy | state | badKind | badLength | badValue | full | notFound | protected_ | badImage
  | verifyFail | journal | memoryFault
deriving DecidableEq, Repr

def replyCodeByte : ReplyCode → Byte
  | .ok => 0x00 | .busy => 0x01 | .state => 0x02 | .badKind => 0x03 | .badLength => 0x04
  | .badValue => 0x05 | .full => 0x06 | .notFound => 0x07 | .protected_ => 0x08 | .badImage => 0x09
  | .verifyFail => 0x0A | .journal => 0x0B | .memoryFault => 0x0C

/-! ## Request kinds (R180) -/

def kindIdentify : Byte := 0x01
def kindStatus : Byte := 0x02
def kindSetParam : Byte := 0x03
def kindGetParam : Byte := 0x04
def kindChannelSet : Byte := 0x05
def kindChannelQuery : Byte := 0x06
def kindFaultClear : Byte := 0x07
def kindLayerSet : Byte := 0x08
def kindLayerQuery : Byte := 0x09
def kindStoreSettings : Byte := 0x0A
def kindDefine : Byte := 0x0B
def kindUndefine : Byte := 0x0C
def kindOverlayClear : Byte := 0x0D
def kindOverlayQuery : Byte := 0x0E
def kindProfileSet : Byte := 0x0F
def kindPortSet : Byte := 0x10
def kindPortQuery : Byte := 0x11
def kindJobOpen : Byte := 0x12
def kindJobClose : Byte := 0x13
def kindJobAbort : Byte := 0x14
def kindStrike : Byte := 0x15
def kindJournalSeek : Byte := 0x16
def kindJournalRead : Byte := 0x17
def kindJournalErase : Byte := 0x18
def kindImageRead : Byte := 0x19
def kindImageWrite : Byte := 0x1A
def kindImageErase : Byte := 0x1B
def kindConditionQuery : Byte := 0x1C
def kindConditionClear : Byte := 0x1D
def kindMark : Byte := 0x1E

/-! ## Notice kinds (R182) -/

def noticeStroke : Byte := 0x40
def noticeEdit : Byte := 0x41
def noticeCondition : Byte := 0x42
def noticeRefusal : Byte := 0x43

/-! ## Frames (section 11.1) -/

/-- The frame of a message: SYNC, LENGTH, KIND, TAG, PAYLOAD, CHECK. -/
def frameBytes (kind tag : Byte) (payload : List Byte) : List Byte :=
  let body := be8 payload.length ++ [kind, tag] ++ payload
  0xA6#8 :: (body ++ crcBytes body)

/-! ## Numbered ports, layers and mark numbers -/

def portOf (n : Nat) : Option PortId :=
  match n with
  | 0 => some .p0 | 1 => some .p1 | 2 => some .p2 | 3 => some .p3 | 4 => some .p4 | _ => none

def PortId.number : PortId → Nat
  | .p0 => 0 | .p1 => 1 | .p2 => 2 | .p3 => 3 | .p4 => 4

def layerOf (n : Nat) : Option LayerId :=
  match n with
  | 1 => some .l1 | 2 => some .l2 | 3 => some .l3 | _ => none

/-- The five ports in order. -/
def allPorts : List PortId := [.p0, .p1, .p2, .p3, .p4]

/-- The viewer ports in order. -/
def viewerPorts : List PortId := [.p1, .p2, .p3, .p4]

/-- The external layers in priority order (R36). -/
def allLayers : List LayerId := [.l1, .l2, .l3]

/-- The stroke codes of a sequence field: 3 bytes each (R181). -/
def codesOf : List Byte → List Nat
  | a :: b :: c :: rest => beValue [a, b, c] :: codesOf rest
  | _ => []

/-- A stroke code is 1-7FFFFFh (R53). -/
def validCode (n : Nat) : Bool := 0 < n && n < 0x800000

/-- A byte that entry and mark text may hold: 20h-7Eh or 0Ah (R53, R75). -/
def textByte (b : Byte) : Bool := (0x20 ≤ b.toNat && b.toNat ≤ 0x7E) || b == 0x0A

end Sys2Proof.Machine
end

