-- ==== Sys2Proof/Machine/Flags.lean ====
section
/-! DEFINITION. Flag bytes: dictionary and mark flags (section 3.2), journal record flags (section 8.2)
and the condition set (section 11.4). -/

namespace Sys2Proof.Machine

/-! ## Dictionary flags (section 3.2) -/

def flagHasText : Byte := 0x01
def flagPrefix : Byte := 0x02
def flagSuppress : Byte := 0x04
def flagAttachBefore : Byte := 0x08
def flagAttachAfter : Byte := 0x10
def flagCapNext : Byte := 0x20
def flagParagraph : Byte := 0x40

/-- A flags byte holds a flag. -/
def hasFlag (flags flag : Byte) : Bool := flags &&& flag != 0

/-- The flags that travel with text (R38): ATTACH_BEFORE, ATTACH_AFTER, CAP_NEXT, PARAGRAPH. -/
def joinFlags (flags : Byte) : Byte := flags &&& 0x78

/-- A mark table entry's flags are any of the four joining flags (R75). -/
def markFlagsValid (flags : Byte) : Bool := flags &&& 0x87 == 0

/-- An overlay entry's flags (R53): no PREFIX, no 80h, and exactly one of HAS_TEXT and SUPPRESS. -/
def overlayFlagsValid (flags : Byte) : Bool :=
  flags &&& 0x82 == 0 && (hasFlag flags flagHasText != hasFlag flags flagSuppress)

/-! ## Journal record and STROKE notice flags (section 8.2, R181) -/

/-- The flags byte: 01h CORRECTION, 02h DEGRADED, 04h REWRITE, 08h AUDIO_PRESENT. -/
def recordFlags (correction degraded rewrite audio : Bool) : Byte :=
  (if correction then 0x01#8 else 0) ||| (if degraded then 0x02#8 else 0) |||
    (if rewrite then 0x04#8 else 0) ||| (if audio then 0x08#8 else 0)

/-- The two audio fields: FFFFFFFFh each when absent (R19). -/
def audioBytes : Option (Word32 × Word32) → List Byte
  | some (d, c) => beWord d ++ beWord c
  | none => beWord 0xFFFFFFFF#32 ++ beWord 0xFFFFFFFF#32

/-! ## Conditions (section 11.4) -/

/-- The seven conditions. -/
inductive Condition
  | strokeLost | journalPassing | memoryFault | keyFault | portFault | journalLow | linkFault
deriving DecidableEq, Repr

/-- The set value of a condition. -/
def Condition.bit : Condition → Byte
  | .strokeLost => 0x01 | .journalPassing => 0x02 | .memoryFault => 0x04 | .keyFault => 0x08
  | .portFault => 0x10 | .journalLow => 0x20 | .linkFault => 0x40

/-- The conditions, highest priority first. -/
def allConditions : List Condition :=
  [.strokeLost, .journalPassing, .memoryFault, .keyFault, .portFault, .journalLow, .linkFault]

/-- Level conditions; the others are events. -/
def Condition.isLevel : Condition → Bool
  | .journalPassing => true | .keyFault => true | .portFault => true | .journalLow => true
  | .strokeLost => false | .memoryFault => false | .linkFault => false

/-- The highest-priority condition of a set, as its set value; 00h when the set is empty (R185). -/
def topCondition (set : Byte) : Byte :=
  match allConditions.find? (fun c => hasFlag set c.bit) with
  | some c => c.bit
  | none => 0

end Sys2Proof.Machine
end

