-- ==== Sys2Proof/Machine/Ops.lean ====
section
/-! DEFINITION. The named operations over the external memory and over the records that several blocks
share. -/

namespace Sys2Proof.Machine

/-! ## External memory (R159)

The list holds the bytes that do not read FFh, addresses strictly rising. -/

/-- What an unlisted byte reads as: FFh, an erased byte (R159). DESIGN CHOICE for memory never written
(log 4). -/
def Mem.unlisted : Byte := 0xFF

/-- The byte at an address. -/
def Mem.read1 (m : List Host.Cell) (a : Nat) : Byte :=
  match m.find? (fun c => c.1 == a) with
  | some c => c.2
  | none => Mem.unlisted

/-- The bytes from an address on. -/
def Mem.read (m : List Host.Cell) (a len : Nat) : List Byte :=
  (List.range len).map (fun i => Mem.read1 m (a + i))

/-- The list with a byte stored, in canonical form. -/
def Mem.write1 (m : List Host.Cell) (a : Nat) (v : Byte) : List Host.Cell :=
  match m with
  | [] => if v = Mem.unlisted then [] else [(a, v)]
  | c :: rest =>
    if a < c.1 then (if v = Mem.unlisted then c :: rest else (a, v) :: c :: rest)
    else if a = c.1 then (if v = Mem.unlisted then rest else (a, v) :: rest)
    else c :: Mem.write1 rest a v

/-- A program: each byte named afterwards holds its old value AND the value programmed (R159). -/
def Mem.program (m : List Host.Cell) (a : Nat) : List Byte → List Host.Cell
  | [] => m
  | v :: vs => Mem.program (Mem.write1 m a (Mem.read1 m a &&& v)) (a + 1) vs

/-- An erase: the sector's 4096 bytes read FFh (R159). -/
def Mem.erase (m : List Host.Cell) (sector : Nat) : List Host.Cell :=
  m.filter (fun c => c.1 / Config.sectorBytes != sector)

/-- A cut-off program (R159): each bit it was clearing is cleared or not, as a free byte says, and
every other bit is unchanged. Free bytes are taken from index k on. -/
def Mem.cutProgram (m : List Host.Cell) (a k : Nat) : List Byte → List Host.Cell
  | [] => m
  | v :: vs =>
    Mem.cutProgram (Mem.write1 m a (Mem.read1 m a &&& (v ||| Config.freeByte k))) (a + 1) (k + 1) vs

/-- Free bytes stored over n addresses from a on, from index k on. -/
def Mem.fillFree (m : List Host.Cell) (a k : Nat) : Nat → List Host.Cell
  | 0 => m
  | n + 1 => Mem.fillFree (Mem.write1 m a (Config.freeByte k)) (a + 1) (k + 1) n

/-- The canonical form: addresses strictly rising, and no entry that an unlisted address reads as. -/
def Mem.wf : List Host.Cell → Bool
  | [] => true
  | [c] => c.2 != Mem.unlisted
  | c :: d :: rest => c.2 != Mem.unlisted && c.1 < d.1 && Mem.wf (d :: rest)

/-! ## Operations at the device -/

/-- An operation within the bounds of R160: a READ of 1 to 256 bytes that ends at or below FFFFFFh, a
PROGRAM of 1 to 256 bytes within one line, an ERASE of a sector 0 to 4095. -/
def MemOp.inBounds : MemOp → Bool
  | .read addr len => 1 ≤ len && len ≤ 256 && addr + len ≤ Config.memoryBytes
  | .program addr bytes =>
    1 ≤ bytes.length && addr % Config.lineBytes + bytes.length ≤ Config.lineBytes &&
      addr + bytes.length ≤ Config.memoryBytes
  | .erase sector => sector < Config.memorySectors

/-- The device after an operation that finished. A READ changes nothing. -/
def Device.finish (d : Device) : MemOp → Device
  | .read _ _ => d
  | .program addr bytes => { d with mem := Mem.program d.mem addr bytes }
  | .erase sector => { d with mem := Mem.erase d.mem sector }

/-- The device after an operation was cut off (R159): its bytes are free as far as R159 leaves them. -/
def Device.scramble (d : Device) : MemOp → Device
  | .read _ _ => d
  | .program addr bytes =>
    { d with mem := Mem.cutProgram d.mem addr d.freeIndex bytes, freeIndex := d.freeIndex + bytes.length }
  | .erase sector =>
    { d with
      mem := Mem.fillFree d.mem (sector * Config.sectorBytes) d.freeIndex Config.sectorBytes
      freeIndex := d.freeIndex + Config.sectorBytes }

/-- The device after an operation was cut off that it may still be running (R159, R162). -/
def Device.cutOff (d : Device) : MemOp → Device
  | .read _ _ => d
  | .program addr bytes => { d.scramble (.program addr bytes) with unfinished := some (.program addr bytes) }
  | .erase sector => { d.scramble (.erase sector) with unfinished := some (.erase sector) }

/-- The device when it answers ready: work that was cut off has ended by now, and it may have cleared
further bits, or have finished, since it was cut off (R162). -/
def Device.becomeReady (d : Device) : Device :=
  match d.unfinished with
  | none => d
  | some op => { d.scramble op with unfinished := none }

/-- The bytes a READ returns: the memory's, with the bits flipped that the device returned wrong
(log 13). -/
def Device.readBytes (d : Device) (addr len : Nat) (flips : List Byte) : List Byte :=
  (Mem.read d.mem addr len).zipWith (· ^^^ ·) ((flips ++ List.replicate len 0).take len)

/-! ## Regions of sectors -/

/-- Two runs of sectors share a sector. -/
def regionsMeet (base1 count1 base2 count2 : Nat) : Bool :=
  base1 < base2 + count2 && base2 < base1 + count1 && 0 < count1 && 0 < count2

/-- A sector lies in a run of sectors. -/
def inRegion (base count sector : Nat) : Bool := base ≤ sector && sector < base + count

/-! ## Layers, profiles and ports by name -/

def Dict.layer (d : Dict) : LayerId → Layer
  | .l1 => d.layer1 | .l2 => d.layer2 | .l3 => d.layer3

def Dict.setLayer (d : Dict) (i : LayerId) (l : Layer) : Dict :=
  match i with
  | .l1 => { d with layer1 := l } | .l2 => { d with layer2 := l } | .l3 => { d with layer3 := l }

def Feeds.profile (f : Feeds) : ProfileId → Profile
  | .a => f.profileA | .b => f.profileB | .c => f.profileC

def Feeds.setProfile (f : Feeds) (i : ProfileId) (p : Profile) : Feeds :=
  match i with
  | .a => { f with profileA := p } | .b => { f with profileB := p } | .c => { f with profileC := p }

def Feeds.port (f : Feeds) : PortId → Port
  | .p0 => f.port0 | .p1 => f.port1 | .p2 => f.port2 | .p3 => f.port3 | .p4 => f.port4

def Feeds.setPort (f : Feeds) (i : PortId) (p : Port) : Feeds :=
  match i with
  | .p0 => { f with port0 := p } | .p1 => { f with port1 := p } | .p2 => { f with port2 := p }
  | .p3 => { f with port3 := p } | .p4 => { f with port4 := p }

/-- The feed unit with every port changed. -/
def Feeds.mapPorts (f : Feeds) (g : PortId → Port → Port) : Feeds :=
  { f with
    port0 := g .p0 f.port0, port1 := g .p1 f.port1, port2 := g .p2 f.port2
    port3 := g .p3 f.port3, port4 := g .p4 f.port4 }

/-- A mark table entry (R75): unset when none. -/
def Params.mark (p : Params) (n : Nat) : Option MarkEntry := (p.marks.getD n none)

end Sys2Proof.Machine
end

