-- ==== Sys2Proof/Machine/Link.lean ====
section
/-! DEFINITION. The link controller's outbound side: the queue, replies and notices, ATTN and the
condition set (sections 11.2 to 11.4). -/

namespace Sys2Proof.Machine

/-! ## The queue and ATTN (R182, R183) -/

/-- The notices in the queue. -/
def Link.notices (l : Link) : List Message := l.queue.filter (fun m => !m.isReply)

/-- The queue holds fewer than 40 notices (R182). -/
def Link.noticeSpace (l : Link) : Bool := l.notices.length < Config.noticePlaces

/-- What ATTN follows (R183): a reply is queued, the trigger level of notices is reached, or the oldest
notice is as old as the gather time. -/
def attnWanted (s : State) : Bool :=
  s.link.queue.any (·.isReply) || s.params.trigger ≤ s.link.notices.length ||
    (match s.link.notices with
     | [] => false
     | m :: _ => m.queuedAt + s.params.gather ≤ s.now)

/-- ATTN is tested (R183). -/
def testAttn (s : State) : State := s.mapLink fun l => { l with attn := attnWanted s }

/-- A message joins the end of the queue (R182). -/
def enqueue (isReply : Bool) (kind tag : Byte) (payload : List Byte) (s : State) : State :=
  testAttn (s.mapLink fun l =>
    { l with queue := l.queue ++ [⟨isReply, frameBytes kind tag payload, 0, s.now⟩] })

/-- A reply with its code and result fields (R180, R182): a reply is always queued at once. -/
def reply (kind tag : Byte) (code : ReplyCode) (fields : List Byte) (s : State) : State :=
  enqueue true kind tag (replyCodeByte code :: fields) s

/-- A notice that is dropped and counted when there is no notice space: STROKE and REFUSAL (R182). -/
def offerNotice (kind : Byte) (payload : List Byte) (s : State) : State :=
  if s.link.noticeSpace then enqueue false kind 0 payload s
  else s.mapLink fun l => { l with noticesDropped := satIncr max32 l.noticesDropped }

/-! ## Conditions (R184) -/

/-- A CONDITION notice joins the queue, with the pending set and the report mask as they stand. -/
def queueCondition (c : Condition) (s : State) : State :=
  enqueue false noticeCondition 0 [c.bit, s.link.conditionsPending, s.params.reportMask] s

/-- Step 2 of R184 for a pending condition: if it is unmasked and not notified, it becomes notified and
its notice is queued, or deferred without notice space. -/
def notifyCondition (c : Condition) (s : State) : State :=
  if hasFlag s.params.reportMask c.bit || hasFlag s.link.notified c.bit then s
  else
    let s1 := s.mapLink fun l => { l with notified := l.notified ||| c.bit }
    if s1.link.noticeSpace then queueCondition c s1
    else s1.mapLink fun l => { l with notifyPending := l.notifyPending ||| c.bit }

/-- A block raises a condition (R184). -/
def raise (c : Condition) (s : State) : State :=
  notifyCondition c (s.mapLink fun l => { l with conditionsPending := l.conditionsPending ||| c.bit })

/-- The cause of a level condition holds (section 11.4); an event condition has no lasting cause. -/
def causeHolds (s : State) : Condition → Bool
  | .journalPassing => s.journal.mode == .passing
  | .keyFault => s.keys.channels.any (fun c => c.latch != .noFault)
  | .portFault => viewerPorts.any (fun p => (s.feeds.port p).lineFault)
  | .journalLow => s.journal.blankCount ≤ s.params.lowThreshold
  | .strokeLost => false
  | .memoryFault => false
  | .linkFault => false

/-- Freed notice space is offered to the deferred CONDITION notices, highest priority first, while
space lasts (R182). -/
def offerDeferred : List Condition → State → State
  | [], s => s
  | c :: cs, s =>
    if hasFlag s.link.notifyPending c.bit && s.link.noticeSpace then
      offerDeferred cs (queueCondition c
        (s.mapLink fun l => { l with notifyPending := l.notifyPending &&& ~~~c.bit }))
    else offerDeferred cs s

/-- A lookup fault or a timeout is counted in the memory fault count and raises MEMORY_FAULT (R50,
R162). -/
def countMemoryFault (s : State) : State :=
  raise .memoryFault (s.mapPort fun p => { p with faultCount := satIncr max32 p.faultCount })

/-- A frame is discarded and counted, and LINK_FAULT is raised (R178, R180). -/
def countLinkFault (s : State) : State :=
  raise .linkFault (s.mapLink fun l => { l with linkFaults := satIncr max32 l.linkFaults })

/-- JOURNAL_LOW is tested (R147). -/
def testJournalLow (s : State) : State :=
  if causeHolds s .journalLow then raise .journalLow s else s

/-! ## Requests (R180) -/

/-- A request that is being taken. -/
structure Request where
  kind : Byte
  tag : Byte
deriving DecidableEq, Repr

/-- The reply to a request. -/
def answer (r : Request) (code : ReplyCode) (fields : List Byte) (s : State) : State :=
  reply r.kind r.tag code fields s

/-- The framer after a frame's last byte (R178). -/
def endFrame (s : State) : State := s.mapLink fun l => { l with framer := .hunting }

/-- A frame handed on by the receive framer is taken (R180): discarded, answered by the link controller,
or handed to its owner. fixedLength is none for the requests whose owner checks the length. -/
def takeRequest (kind tag : Byte) (payload : List Byte) (fixedLength : Option Nat)
    (owner : Request → List Byte → State → State) (s : State) : State :=
  let s := endFrame s
  if s.link.outstanding ≥ Config.outstandingRequests || tag == 0 then countLinkFault s
  else
    let s := s.mapLink fun l => { l with outstanding := l.outstanding + 1 }
    let r : Request := ⟨kind, tag⟩
    if s.job.state == .booting && kind != kindIdentify && kind != kindStatus then answer r .busy [] s
    else if fixedLength.any (· != payload.length) then answer r .badLength [] s
    else owner r payload s

/-- A frame whose KIND is not a request kind (R180). -/
def takeBadKind (kind tag : Byte) (s : State) : State :=
  let s := endFrame s
  if s.link.outstanding ≥ Config.outstandingRequests || tag == 0 then countLinkFault s
  else answer ⟨kind, tag⟩ .badKind [] (s.mapLink fun l => { l with outstanding := l.outstanding + 1 })

end Sys2Proof.Machine
end

