-- ==== Sys2Proof/Machine/PortOps.lean ====
section
/-! DEFINITION. The memory port's requests, its link-side queue and its arbiter (section 9.3). -/

namespace Sys2Proof.Machine

/-- The journal controller requests an operation. -/
def requestJournal (op : MemOp) (s : State) : State := s.mapPort fun p => { p with journalRequest := some op }

/-- The translation engine's lookup requests an operation. -/
def requestTranslation (op : MemOp) (s : State) : State :=
  s.mapPort fun p => { p with translationRequest := some op }

/-- The head item of the link-side queue requests its next operation. -/
def requestLink (op : MemOp) (s : State) : State := s.mapPort fun p => { p with linkRequest := some op }

/-- A work item joins the link-side queue (R163). -/
def pushItem (i : LinkItem) (s : State) : State := s.mapPort fun p => { p with items := p.items ++ [i] }

/-- The head item changes as it goes on. -/
def setHead (i : LinkItem) (s : State) : State := s.mapPort fun p => { p with items := i :: p.items.drop 1 }

/-- The head item ends, and the next item becomes the head (R163). -/
def popItem (s : State) : State := s.mapPort fun p => { p with items := p.items.drop 1, headBegun := false }

/-- An operation in flight for a requester: its outcome will be dropped. -/
def dropInFlight (r : Requester) (s : State) : State :=
  s.mapPort fun p => { p with inFlight := p.inFlight.map fun f =>
    if f.requester = r then { f with dropped := true } else f }

/-- The request the arbiter grants: the lowest-numbered requester's (R163). -/
def MemPort.chosen (p : MemPort) : Option (Requester × MemOp) :=
  match p.journalRequest with
  | some op => some (.journal, op)
  | none =>
    match p.translationRequest with
    | some op => some (.translation, op)
    | none => p.linkRequest.map fun op => (.link, op)

/-- The port with a requester's request taken. -/
def MemPort.withdraw (p : MemPort) : Requester → MemPort
  | .journal => { p with journalRequest := none }
  | .translation => { p with translationRequest := none }
  | .link => { p with linkRequest := none }

/-- An operation is granted the slot and begins its READY_WAIT (R161). -/
def MemPort.grant (p : MemPort) (r : Requester) (op : MemOp) (now : Nat) : MemPort :=
  { p.withdraw r with
    state := .busy
    inFlight := some ⟨op, r, .readyWait, now + Config.readyTimeout, false⟩ }

/-- The slot is granted when it is free and a request is pending (R163). -/
def grantStep (s : State) : Option State :=
  if s.port.state = .idle then
    match s.port.chosen with
    | some (r, op) => some (s.mapPort fun p => p.grant r op s.now)
    | none => none
  else none

/-- The slot is freed at the end of an operation (R161). -/
def freeSlot (s : State) : State := s.mapPort fun p => { p with state := .idle, inFlight := none }

end Sys2Proof.Machine
end

