-- ==== Sys2Proof/Machine/RingOps.lean ====
section
/-! DEFINITION. The stroke ring (chapter 2): arrival, loss, the holding slot, cursors and freeing. -/

namespace Sys2Proof.Machine

/-- What became of an arrival (R30). -/
inductive Arrival
  | entered (seq : Nat)
  | held (seq : Nat)
  | lost
deriving DecidableEq, Repr

/-- A record arrives at the ring (R24 to R26). -/
def Ring.arrive (r : Ring) (body : RecordBody) : Ring × Arrival :=
  if r.holding.isSome ∨ max32 ≤ r.nextSeq then
    ({ r with gap := satIncr 255 r.gap, lost := satIncr max32 r.lost }, .lost)
  else if r.entries.length < Config.ringEntries then
    ({ r with entries := r.entries ++ [⟨r.nextSeq, r.gap, body⟩], nextSeq := r.nextSeq + 1, gap := 0 },
      .entered r.nextSeq)
  else ({ r with holding := some ⟨r.gap, body⟩, gap := 0 }, .held r.nextSeq)

/-- The held record moves into an entry when one is free (R29). -/
def Ring.moveIn (r : Ring) : Ring :=
  match r.holding with
  | none => r
  | some h =>
    if r.entries.length < Config.ringEntries then
      { r with
        entries := r.entries ++ [⟨r.nextSeq, h.gap, h.body⟩], nextSeq := r.nextSeq + 1, holding := none }
    else r

/-- Tail entries passed by both consumers are freed, and a held record moves in (R29). -/
def Ring.free (r : Ring) : Ring :=
  { r with entries := r.entries.dropWhile fun e =>
      e.seq < r.translationCursor && e.seq < r.journalCursor }.moveIn

/-- The record a cursor stands on, when it is available. -/
def Ring.recordAt (r : Ring) (cursor : Nat) : Option RingRecord := r.entries.find? (fun e => e.seq == cursor)

/-- The translation cursor moves past the record taken (R27). -/
def Ring.passTranslation (r : Ring) : Ring := { r with translationCursor := r.translationCursor + 1 }.free

/-- The journal cursor moves past the record completed (R28). -/
def Ring.passJournal (r : Ring) : Ring := { r with journalCursor := r.journalCursor + 1 }.free

/-- The unjournaled records (R28). -/
def Ring.unjournaled (r : Ring) : Nat :=
  r.nextSeq - r.journalCursor + (if r.holding.isSome then 1 else 0)

/-- Drained for the journal (R33). -/
def Ring.drainedJournal (r : Ring) : Bool := r.journalCursor == r.nextSeq && r.holding.isNone

/-- Drained for translation (R83). -/
def Ring.drainedTranslation (r : Ring) : Bool := r.translationCursor == r.nextSeq && r.holding.isNone

/-- The ring emptied at job abort (R34). -/
def Ring.abort (r : Ring) : Ring :=
  { r with
    entries := [], holding := none, translationCursor := r.nextSeq, journalCursor := r.nextSeq, gap := 0 }

/-- An arrival with its condition: a loss raises STROKE_LOST (R26). -/
def arrive (body : RecordBody) (s : State) : State :=
  let s1 := s.mapRing fun r => (r.arrive body).1
  match (s.ring.arrive body).2 with
  | .lost => raise .strokeLost s1
  | .entered _ => s1
  | .held _ => s1

/-- A MARK or STRIKE record made as its request is taken (R23). -/
def hostRecord (kind : RecordKind) (value : Code) (f : StrokeFormer) : RecordBody where
  kind := kind
  value := value
  correction := kind == .strike
  degraded := false
  downTime := f.jobClock
  closeTime := f.jobClock
  audio := if f.audioSeen then some (f.audioCount, f.audioCount) else none

/-- The outcome and sequence number of a MARK or STRIKE reply (R30, R181). -/
def Arrival.fields : Arrival → List Byte
  | .entered seq => be8 0 ++ be32 seq
  | .held seq => be8 1 ++ be32 seq
  | .lost => be8 2 ++ be32 0

end Sys2Proof.Machine
end

