-- ==== Sys2Proof/Machine/Lookup.lean ====
section
/-! DEFINITION. The dictionary unit's lookups (sections 3.2, 3.4, 3.5, 3.6). -/

namespace Sys2Proof.Machine

/-! ## Images (section 3.2) -/

/-- What an acceptable header gives (R37). -/
structure ImageHeader where
  bucketBits : Nat
  entryCount : Nat
  imageLength : Nat
deriving DecidableEq, Repr

/-- A 16-byte header read for a region of count sectors; none when it is not acceptable (R37). -/
def readHeader (bytes : List Byte) (count : Nat) : Option ImageHeader :=
  let l := (byteAt bytes 3).toNat
  let len := fieldAt bytes 8 4
  if byteAt bytes 0 = 0x5A ∧ byteAt bytes 1 = 0x44 ∧ byteAt bytes 2 = 0x01 ∧ 8 ≤ l ∧ l ≤ 20 ∧
      16 + 4 * 2 ^ l ≤ len ∧ len ≤ count * Config.sectorBytes
  then some ⟨l, fieldAt bytes 4 4, len⟩
  else none

/-- The layer with its header fields at their start-up values. -/
def Layer.clearHeader (l : Layer) : Layer :=
  { l with bucketBits := 8, entryCount := 0, imageLength := 0 }

/-- The layer record after its header was read (R41, R42): none is a timeout. -/
def Layer.afterHeader (l : Layer) : Option (List Byte) → Layer
  | none => { l.clearHeader with valid := false, checkPending := true }
  | some bytes =>
    match readHeader bytes l.count with
    | some h =>
      { l with
        valid := true, checkPending := false, bucketBits := h.bucketBits
        entryCount := h.entryCount, imageLength := h.imageLength }
    | none => { l.clearHeader with valid := false, checkPending := false }

/-- The layer record marked by an image write or erase (R43). -/
def Layer.invalidate (l : Layer) : Layer := { l.clearHeader with valid := false, checkPending := true }

/-- A layer is consulted (R36). -/
def Layer.admitted (l : Layer) : Bool := l.enable && l.valid && !l.checkPending

/-- An offset within the image's entry records (R39). -/
def Layer.offsetOk (l : Layer) (offset : Nat) : Bool :=
  16 + 4 * 2 ^ l.bucketBits ≤ offset && offset + 11 ≤ l.imageLength

/-- The end-of-chain and empty-bucket mark. -/
def noOffset : Nat := 0xFFFFFFFF

/-! ## The lookup hash (R45) -/

/-- The fold of a sequence's codes. -/
def sequenceHash (codes : List Code) : Nat :=
  codes.foldl (fun h c => (h * 33 + c.toNat + 1) % 2 ^ 32) 0

/-- The offset of a sequence's bucket slot in a layer. -/
def Layer.slotOffset (l : Layer) (codes : List Code) : Nat :=
  16 + 4 * (sequenceHash codes % 2 ^ l.bucketBits)

/-- The memory address of an offset in a layer (section 3.2). -/
def Layer.addr (l : Layer) (offset : Nat) : Nat := l.base * Config.sectorBytes + offset

/-! ## Results -/

/-- The answer to a sequence of more than 8 strokes (R46). -/
def LookupResult.empty : LookupResult := ⟨.undecided, false, false⟩

/-- A result has text (R64). -/
def LookupResult.hasText (r : LookupResult) : Bool :=
  match r.decision with
  | .text _ _ => true
  | .suppressed => false
  | .undecided => false

/-- Nothing more can be learned: the text is decided and the continuation is yes (R49). -/
def LookupResult.final (r : LookupResult) : Bool := r.decision != .undecided && r.continuation

/-- A matching record is taken into the result (R48, R49): it decides if nothing above it has, and its
PREFIX reports continuation. -/
def LookupResult.matched (r : LookupResult) (flags : Byte) (text : List Byte) : LookupResult :=
  { r with
    decision :=
      if r.decision != .undecided then r.decision
      else if hasFlag flags flagSuppress then .suppressed
      else if hasFlag flags flagHasText then .text (joinFlags flags) text
      else .undecided
    continuation := r.continuation || hasFlag flags flagPrefix }

/-! ## The overlay (R57) -/

/-- The overlay entry that matches a sequence. -/
def overlayMatch (overlay : List OverlayEntry) (codes : List Code) : Option OverlayEntry :=
  overlay.find? (fun e => e.sequence == codes)

/-- The overlay's continuation for a sequence. -/
def overlayContinues (overlay : List OverlayEntry) (codes : List Code) : Bool :=
  overlay.any (fun e => codes.length < e.sequence.length && e.sequence.take codes.length == codes)

/-- Layer 0's answer (R57). -/
def overlayAnswer (overlay : List OverlayEntry) (codes : List Code) : LookupResult :=
  let r : LookupResult := ⟨.undecided, overlayContinues overlay codes, false⟩
  match overlayMatch overlay codes with
  | some e => r.matched e.flags e.text
  | none => r

/-! ## The walk (R47) -/

/-- The READ a walk's stage waits for. -/
def Lookup.readOp (k : Lookup) (d : Dict) : MemOp :=
  let l := d.layer k.layer
  match k.stage with
  | .slot => .read (l.addr (l.slotOffset k.sequence)) 4
  | .fixedPart offset _ => .read (l.addr offset) 7
  | .remainder offset _ fixed =>
    .read (l.addr (offset + 7)) (3 * (byteAt fixed 4).toNat + (byteAt fixed 6).toNat + 1)

/-- How a lookup goes on: it reads, or it has its result. -/
inductive LookupNext
  | reads (k : Lookup)
  | done (r : LookupResult)
deriving DecidableEq, Repr

/-- The next layer of a list that is consulted begins its walk; with none, or nothing more to learn, the
lookup has its result (R47, R49). -/
def consult (d : Dict) (codes : List Code) (r : LookupResult) : List LayerId → LookupNext
  | [] => .done r
  | i :: rest =>
    if r.final then .done r
    else if (d.layer i).admitted then .reads ⟨codes, r, i, rest, .slot⟩
    else consult d codes r rest

/-- A lookup begins: layer 0 answers at once, from the overlay as it stands (R47, R51, R57). -/
def beginLookup (d : Dict) (codes : List Code) : LookupNext :=
  consult d codes (overlayAnswer d.overlay codes) allLayers

/-- What a READ of a walk brings. -/
inductive WalkOutcome
  /-- A corrupt value or a chain limit (R39, R47). -/
  | fault
  /-- The layer has no record for the sequence. -/
  | absent
  /-- The matching record. -/
  | found (flags : Byte) (text : List Byte)
  /-- A further read. -/
  | goOn (stage : WalkStage)
deriving DecidableEq, Repr

/-- The text bytes of a record as delivered (R38). -/
def deliverText (bytes : List Byte) : List Byte := bytes.map fun b => if textByte b then b else 0x3F

/-- The bucket slot or the next offset, when no matching record is at hand: the walk goes to it or ends
(R47). examined is the count of records examined. -/
def walkTo (l : Layer) (offset examined : Nat) : WalkOutcome :=
  if offset = noOffset then .absent
  else if !l.offsetOk offset then .fault
  else if Config.chainLimit ≤ examined then .fault
  else .goOn (.fixedPart offset examined)

/-- The walk takes the bytes of its READ (R47, R39). -/
def walkStep (l : Layer) (codes : List Code) (stage : WalkStage) (bytes : List Byte) : WalkOutcome :=
  match stage with
  | .slot => walkTo l (beValue bytes) 0
  | .fixedPart offset examined =>
    let next := fieldAt bytes 0 4
    let n := (byteAt bytes 4).toNat
    let t := (byteAt bytes 6).toNat
    if n < 1 ∨ 8 < n ∨ 48 < t ∨ l.imageLength < offset + 8 + 3 * n + t ∨
        (next ≠ noOffset ∧ !l.offsetOk next)
    then .fault
    else .goOn (.remainder offset examined bytes)
  | .remainder _ examined fixed =>
    let n := (byteAt fixed 4).toNat
    let t := (byteAt fixed 6).toNat
    let whole := fixed ++ bytes
    let body := whole.take (7 + 3 * n + t)
    if byteAt whole (7 + 3 * n + t) ≠ body.foldl (· + ·) 0 then .fault
    else if codesOf (bytes.take (3 * n)) = codes.map (·.toNat) then
      .found (byteAt fixed 5) (deliverText ((bytes.drop (3 * n)).take t))
    else walkTo l (fieldAt fixed 0 4) (examined + 1)

/-- A lookup fault ends the walk of its layer (R50). -/
def Dict.countLayerFault (d : Dict) (i : LayerId) : Dict :=
  d.setLayer i { d.layer i with faultCount := satIncr max32 (d.layer i).faultCount }

end Sys2Proof.Machine
end

