-- ==== Sys2Proof/Machine/Evaluation.lean ====
section
/-! DEFINITION. The translation engine's evaluation: answers, resolution, the provisional parse, and
the joining of text (sections 4.2 to 4.4). -/

namespace Sys2Proof.Machine

/-! ## Raw steno (R65) -/

/-- The letters of ch0 to ch22 in channel order (section 1.1). -/
def channelLetters : List Char :=
  ['#', 'S', 'T', 'K', 'P', 'W', 'H', 'R', 'A', 'O', '*', 'E', 'U',
   'F', 'R', 'P', 'B', 'L', 'G', 'T', 'S', 'D', 'Z']

/-- The letters present among channels first to first + n - 1. -/
def lettersOf (code : Code) (first n : Nat) : List Byte :=
  (List.range n).filterMap fun i =>
    if code.getLsbD (first + i) then some (BitVec.ofNat 8 (channelLetters.getD (first + i) ' ').toNat)
    else none

/-- A stroke's raw form (R65). -/
def rawForm (code : Code) : List Byte :=
  let middle := lettersOf code 8 5
  let finals := lettersOf code 13 10
  lettersOf code 0 8 ++ middle ++ (if middle.isEmpty && !finals.isEmpty then [0x2D] else []) ++ finals

/-! ## Joining (R67, R68) -/

/-- The separator and text of a contribution at position p under the carry state (R67). -/
def joinedText (kind : ChunkKind) (flags : Byte) (text : List Byte) (carry : Carry) (p : Nat) : List Byte :=
  match text with
  | [] => if p = 0 then [] else if hasFlag flags flagParagraph then [0x0A] else []
  | first :: rest =>
    let separator : List Byte :=
      if p = 0 then []
      else if hasFlag flags flagParagraph then [0x0A]
      else if carry.attach || hasFlag flags flagAttachBefore then []
      else [0x20]
    let lower := 0x61 ≤ first.toNat && first.toNat ≤ 0x7A
    let first := if carry.cap && kind != .untranslate && lower then first - 0x20 else first
    separator ++ first :: rest

/-- The carry-out of a contribution (R68). -/
def carryOut (kind : ChunkKind) (flags : Byte) (text : List Byte) (carry : Carry) : Carry :=
  let attach := hasFlag flags flagAttachAfter || hasFlag flags flagParagraph
  let cap := hasFlag flags flagCapNext
  match text with
  | [] => ⟨carry.attach || attach, carry.cap || cap⟩
  | _ :: _ => if kind = .untranslate then ⟨false, carry.cap⟩ else ⟨attach, cap⟩

/-- A chunk joined at a position under a carry state (R67 to R69), with after count 0. -/
def joinChunk (kind : ChunkKind) (strokes : List StrokeEntry) (markSource : Option HeldMark) (flags : Byte)
    (raw : List Byte) (isOpen : Bool) (carry : Carry) (p : Nat) : Chunk where
  kind := kind
  strokes := strokes
  markSource := markSource
  flags := flags
  start := p
  text := joinedText kind flags raw carry p
  carryIn := carry
  carryOut := carryOut kind flags raw carry
  afterCount := 0
  isOpen := isOpen
  unrecorded := false

/-- The position after a chunk's text. -/
def Chunk.stop (c : Chunk) : Nat := c.start + c.text.length

/-- What an evaluation resolved, joined in order from a carry state and a position (R67). -/
def joinAll (isOpen : Bool) : Carry → Nat → List Resolved → List Chunk
  | _, _, [] => []
  | carry, p, r :: rest =>
    let c := joinChunk r.kind r.strokes none r.flags r.raw isOpen carry p
    c :: joinAll isOpen c.carryOut c.stop rest

/-- A chunk's last source sequence number (R69). -/
def Chunk.lastSeq (c : Chunk) : Nat :=
  match c.markSource with
  | some m => m.seq
  | none => (c.strokes.getLast?.map (·.seq)).getD 0

/-! ## Answers (R62, R63) -/

/-- A result kept under its sequence. -/
def findAnswer (answers : List (List Code × LookupResult)) (codes : List Code) : Option LookupResult :=
  (answers.find? (fun a => a.1 == codes)).map (·.2)

/-- What an evaluation changes as it goes: its own progress and the match cache. -/
structure EvalContext where
  run : EvalRun
  cache : List (List Code × LookupResult)
deriving DecidableEq, Repr

/-- An answer is taken into the evaluation. -/
def EvalContext.keep (c : EvalContext) (codes : List Code) (r : LookupResult) : EvalContext :=
  { c with run := { c.run with answers := c.run.answers ++ [(codes, r)] } }

/-- A lookup result arrives: it serves the evaluation, and without a fault it is kept in the cache
(R62). -/
def EvalContext.arrive (c : EvalContext) (codes : List Code) (r : LookupResult) : EvalContext :=
  let c := c.keep codes r
  if r.fault then c else { c with cache := c.cache ++ [(codes, r)] }

/-- A part of an evaluation either has what it needs or waits for a lookup's READs. -/
inductive Progress (α : Type)
  | done (c : EvalContext) (a : α)
  | waits (c : EvalContext) (k : Lookup)

/-- The answer for a sequence (R63): of this evaluation, of the cache, or of a lookup. -/
def need (d : Dict) (c : EvalContext) (codes : List Code) : Progress LookupResult :=
  if Config.longestEntry < codes.length then .done c .empty
  else
    match findAnswer c.run.answers codes with
    | some r => .done c r
    | none =>
      match findAnswer c.cache codes with
      | some r => .done (c.keep codes r) r
      | none =>
        match beginLookup d codes with
        | .done r => .done (c.arrive codes r) r
        | .reads k => .waits c k

/-- The codes of the first k strokes. -/
def codesOfFirst (k : Nat) (strokes : List StrokeEntry) : List Code := (strokes.take k).map (·.code)

/-- The largest count of strokes from k down to 1 at the front that has text, with its decision (R64
step 2, R66 step 1). -/
def longestText (d : Dict) (strokes : List StrokeEntry) :
    Nat → EvalContext → Progress (Option (Nat × LookupResult))
  | 0, c => .done c none
  | k + 1, c =>
    match need d c (codesOfFirst (k + 1) strokes) with
    | .waits c l => .waits c l
    | .done c r => if r.hasText then .done c (some (k + 1, r)) else longestText d strokes k c

/-- What the front of the strokes becomes, with the count of strokes it takes (R64 step 3, R66 step 2):
an entry, or the first stroke's untranslate. -/
def frontPiece (strokes : List StrokeEntry) : Option (Nat × LookupResult) → Resolved
  | some (k, ⟨.text flags bytes, _, _⟩) => ⟨.entry, strokes.take k, flags, bytes⟩
  | some (_, _) => ⟨.untranslate, strokes.take 1, 0, (strokes.take 1).flatMap (fun w => rawForm w.code)⟩
  | none => ⟨.untranslate, strokes.take 1, 0, (strokes.take 1).flatMap (fun w => rawForm w.code)⟩

/-! ## Resolution (R64) -/

/-- Resolution stops at the front of the working window because a longer entry may continue it (R64
step 1). -/
def heldBack (d : Dict) (c : EvalContext) : Progress Bool :=
  if c.run.forced || Config.longestEntry < c.run.work.length then .done c false
  else
    match need d c (c.run.work.map (·.code)) with
    | .waits c l => .waits c l
    | .done c r => .done c r.continuation

/-- Resolution from where it stands, with chunks the number of chunk records the list holds. The first
argument bounds the strokes left. -/
def resolve (d : Dict) (chunks : Nat) : Nat → EvalContext → Progress Unit
  | 0, c => .done c ()
  | n + 1, c =>
    if c.run.work.isEmpty then .done c ()
    else
      match heldBack d c with
      | .waits c l => .waits c l
      | .done c true => .done c ()
      | .done c false =>
        match longestText d c.run.work (min c.run.work.length Config.longestEntry) c with
        | .waits c l => .waits c l
        | .done c found =>
          if Config.chunkRecords ≤ chunks + c.run.resolved.length then
            .done { c with run := { c.run with cut := true } } ()
          else
            let piece := frontPiece c.run.work found
            resolve d chunks n
              { c with run := { c.run with
                work := c.run.work.drop piece.strokes.length
                resolved := c.run.resolved ++ [piece] } }

/-! ## The provisional parse (R66) -/

/-- The pieces of the strokes that remain. The first argument bounds the strokes left. -/
def parse (d : Dict) : Nat → List StrokeEntry → EvalContext → Progress (List Resolved)
  | 0, _, c => .done c []
  | n + 1, strokes, c =>
    if strokes.isEmpty then .done c []
    else
      match longestText d strokes (min strokes.length Config.longestEntry) c with
      | .waits c l => .waits c l
      | .done c found =>
        let piece := frontPiece strokes found
        match parse d n (strokes.drop piece.strokes.length) c with
        | .waits c l => .waits c l
        | .done c rest => .done c (piece :: rest)

/-- The evaluation goes on from where it stands (R63): resolution, then the parse. It ends with the
pieces of the provisional tail. -/
def evaluateOn (d : Dict) (chunks : Nat) (c : EvalContext) : Progress (List Resolved) :=
  if c.run.parsing then parse d c.run.work.length c.run.work c
  else
    match resolve d chunks c.run.work.length c with
    | .waits c l => .waits c l
    | .done c () =>
      let c := { c with run := { c.run with parsing := true } }
      parse d c.run.work.length c.run.work c

/-! ## Beginning (R63) -/

/-- An evaluation at its beginning, over a window. -/
def EvalRun.begin (forced : Bool) (window : List StrokeEntry) : EvalRun where
  forced := forced
  work := window
  resolved := []
  cut := false
  parsing := false
  answers := []

/-- An evaluation begins (R63). -/
def Engine.beginEvaluation (e : Engine) (forced : Bool) : Engine :=
  { e with
    state := .evaluating
    timerDue := none
    forceOwed := e.forceOwed || forced
    run := some (EvalRun.begin forced e.window) }

/-! ## The match cache (R62) -/

/-- A sequence is a run of consecutive strokes of a window. -/
def isRun (codes : List Code) : List Code → Bool
  | [] => codes.isEmpty
  | w :: ws => codes.isPrefixOf (w :: ws) || isRun codes ws

/-- The cache trimmed at the end of an evaluation. -/
def trimCache (cache : List (List Code × LookupResult)) (window : List StrokeEntry) :
    List (List Code × LookupResult) :=
  cache.filter fun a => isRun a.1 (window.map (·.code))

end Sys2Proof.Machine
end

