-- ==== Sys2Proof/Machine/Feeds.lean ====
section
/-! DEFINITION. The feed unit (chapter 7): port states, tracking positions, pacing and frame choice. -/

namespace Sys2Proof.Machine

/-! ## Reading the stream (R104) -/

/-- The retain start: max(0, S - 2048) (R103). -/
def retainStart (s : State) : Nat := s.stream.settled - Config.retainedBytes

/-- The bytes of the retained range, from the three places that hold them (R104). -/
def retainedText (s : State) : List Byte :=
  s.stream.store ++ (s.engine.chunks.map (·.text)).flatten ++ s.engine.tail

/-- The stream bytes of n positions from a on (R104). -/
def readStream (s : State) (a n : Nat) : List Byte :=
  ((retainedText s).drop (a - retainStart s)).take n

/-! ## Port states (R120) -/

/-- Entry into OFF, DETACHED or REFRESHING, re-entry included (R120). -/
def Port.enter (state : PortState) (start : Nat) (p : Port) : Port :=
  { p with
    state := state, base := start, displayed := start, valid := start, settledSent := start
    credit := if state = .off then 0 else p.credit }

/-- The port follows the stream: REFRESHING or FOLLOWING. -/
def Port.active (p : Port) : Bool := p.state == .refreshing || p.state == .following

/-- A port's cap: its profile's burst × 100 (R116). -/
def Profile.cap (p : Profile) : Nat := p.burst * 100

/-- A port's profile (R115). -/
def Feeds.profileOf (f : Feeds) (i : PortId) : Profile := f.profile (f.port i).profile

/-- A port's target T (R116). -/
def target (s : State) (i : PortId) : Nat :=
  match (s.feeds.profileOf i).mode with
  | .live => s.stream.length
  | .settled => s.stream.settled

/-! ## Frame choice (R127, R128) -/

/-- A frame that a port takes (R128). -/
inductive FeedFrame
  | clear (refreshPoint : Nat)
  | retract (count newEnd : Nat)
  | append (start : Nat) (bytes : List Byte)
  | settle (delta newSent : Nat)
deriving DecidableEq, Repr

/-- A port may choose (R127). -/
def mayChoose (s : State) (i : PortId) : Bool :=
  let p := s.feeds.port i
  p.active && p.frame.isNone && !(s.feeds.profileOf i).hold && 100 ≤ p.credit &&
    (i != .p0 || s.link.noticeSpace)

/-- The refresh point r of a CLEAR: max(retain start, S - refresh depth) (R128). -/
def refreshPoint (s : State) (i : PortId) : Nat :=
  max (retainStart s) (s.stream.settled - (s.feeds.profileOf i).refreshDepth)

/-- The first frame of R128's list that applies to the port; none when it has nothing to send. -/
def frameFor (s : State) (i : PortId) : Option FeedFrame :=
  let p := s.feeds.port i
  let known := min s.stream.settled p.displayed
  if p.state = .refreshing then some (.clear (refreshPoint s i))
  else if p.valid < p.displayed then some (.retract (p.displayed - p.valid) p.valid)
  else if p.displayed < target s i then
    let n := min (min (target s i - p.displayed) 32) (p.credit / 100)
    some (.append p.displayed (readStream s p.displayed n))
  else if (s.feeds.profileOf i).mode = .live ∧ p.settledSent < known then
    let delta := min (known - p.settledSent) 65535
    some (.settle delta (p.settledSent + delta))
  else none

/-- What a frame costs in credit (R126). -/
def FeedFrame.cost : FeedFrame → Nat
  | .append _ bytes => bytes.length * 100
  | .retract _ _ => 100
  | .clear _ => 100
  | .settle _ _ => 100

/-- A port's positions, state and credit after it takes a frame (R128). -/
def Port.take (p : Port) (f : FeedFrame) : Port :=
  let p := { p with credit := p.credit - f.cost }
  match f with
  | .clear r =>
    { p with state := .following, base := r, displayed := r, valid := r, settledSent := r }
  | .retract _ newEnd => { p with displayed := newEnd }
  | .append start bytes => { p with displayed := start + bytes.length, valid := start + bytes.length }
  | .settle _ newSent => { p with settledSent := newSent }

/-- A frame's bytes on a viewer line (R129). -/
def FeedFrame.lineBytes : FeedFrame → List Byte
  | .append _ bytes => 0x02#8 :: (be8 bytes.length ++ bytes)
  | .retract count _ => 0x08#8 :: be16 count
  | .clear _ => [0x0C#8]
  | .settle delta _ => 0x11#8 :: be16 delta

/-- The stop level, at which a viewer line rests between frames (R129). That it is written true is PRESUMED
(log 49): R129 does not give its polarity. -/
def stopLevel : Bool := true

/-- A byte as an asynchronous serial character (R129): one start bit, the eight data bits least significant
first, one stop bit, no parity. -/
def serialCharacter (b : Byte) : List Bool :=
  [!stopLevel] ++ (List.range 8).map (fun i => b.getLsbD i) ++ [stopLevel]

/-- The bits of a frame on its line, first bit first: its bytes follow one another without gaps (R129). -/
def LineFrame.bits (f : LineFrame) : List Bool := f.bytes.flatMap serialCharacter

/-- What the port's VTX line carries: the bits of the frame in flight, or the level at rest (R129, R130). -/
def Port.lineBits (p : Port) : List Bool :=
  match p.frame with
  | some f => f.bits
  | none => [stopLevel]

/-- A frame's EDIT notice payload on port 0 (R131, R132): kind, flags, job number, position, count,
text. -/
def FeedFrame.editPayload (job : Nat) (unrecordedPoint : Option Nat) : FeedFrame → List Byte
  | .clear r => [0x01#8, 0] ++ be16 job ++ be32 r ++ be8 0
  | .retract _ newEnd => [0x02#8, 0] ++ be16 job ++ be32 newEnd ++ be8 0
  | .append start bytes => [0x03#8, 0] ++ be16 job ++ be32 start ++ be8 bytes.length ++ bytes
  | .settle _ newSent =>
    [0x04#8, boolCode (unrecordedPoint.any (· < newSent))] ++ be16 job ++ be32 newSent ++ be8 0

/-- A port takes a frame: its record changes, and the frame goes on its line or, for port 0, into the
outbound queue (R128, R130, R131). -/
def takeFrame (i : PortId) (f : FeedFrame) (s : State) : State :=
  let p := (s.feeds.port i).take f
  match i with
  | .p0 =>
    enqueue false noticeEdit 0 (f.editPayload s.job.number s.stream.unrecordedPoint)
      (s.mapFeeds fun g => g.setPort .p0 p)
  | _ => s.mapFeeds fun g => g.setPort i { p with frame := some ⟨f.lineBytes, p.speed⟩ }

/-- One choice of a port (R127, R128). -/
def choose (i : PortId) (s : State) : State :=
  if mayChoose s i then
    match frameFor s i with
    | some f => takeFrame i f s
    | none => s
  else s

/-- Port 0's run of choices in one step (R127): each frame it takes fills a place of the queue, so n
choices with n the places notices may occupy are all there can be. -/
def chooseRun : Nat → State → State
  | 0, s => s
  | n + 1, s =>
    if mayChoose s .p0 && (frameFor s .p0).isSome then chooseRun n (choose .p0 s) else s

/-- Port 0's choices at an event. -/
def choosePortZero (s : State) : State := chooseRun Config.noticePlaces s

/-- A choice for every port, at an event that reaches all of them (R127). -/
def chooseAll (s : State) : State :=
  choose .p4 (choose .p3 (choose .p2 (choose .p1 (choosePortZero s))))

/-- A choice for one port, at an event that reaches it alone. -/
def chooseOne (i : PortId) (s : State) : State :=
  match i with
  | .p0 => choosePortZero s
  | _ => choose i s

/-! ## Reports of the text stream (R105, R124, R125) -/

/-- The text stream hands on a RETRACT to p (R124): every port's valid end becomes min(v, p). -/
def feedRetract (pos : Nat) (s : State) : State :=
  chooseAll (s.mapFeeds fun f => f.mapPorts fun _ p => { p with valid := min p.valid pos })

/-- A FOLLOWING port that can no longer be mended after a new S (R125). -/
def Port.outrun (p : Port) (start settled : Nat) : Bool :=
  p.state == .following && (p.valid < start || (p.valid < settled && p.valid < p.displayed))

/-- The text stream reports a new S (R125). -/
def feedSettled (s : State) : State :=
  chooseAll (s.mapFeeds fun f => f.mapPorts fun _ p =>
    if p.outrun (retainStart s) s.stream.settled then p.enter .refreshing (retainStart s) else p)

/-- The text stream reports a new L (R105). -/
def feedLength (s : State) : State := chooseAll s

/-! ## Line sense (R119) -/

/-- One sample of one line: the port after it, and the change of line present, if any. -/
def Port.sample (p : Port) (present : Bool) : Port × Option Bool :=
  let p :=
    if present = p.senseReading then { p with senseRun := min (p.senseRun + 1) 200 }
    else { p with senseReading := present, senseRun := 1 }
  if p.senseRun = 200 ∧ p.senseReading ≠ p.linePresent then
    ({ p with linePresent := p.senseReading }, some p.senseReading)
  else (p, none)

/-- The level of a viewer port's presence line; port 0 has none. -/
def lineLevel (lines : Presence) : PortId → Bool
  | .p0 => true
  | .p1 => lines.getLsbD 0
  | .p2 => lines.getLsbD 1
  | .p3 => lines.getLsbD 2
  | .p4 => lines.getLsbD 3

/-- What a change of line present does to a port (R120). -/
def Port.lineChanged (p : Port) (start : Nat) : Option Bool → Port
  | none => p
  | some true => if p.state = .detached then p.enter .refreshing start else p
  | some false => if p.active then { p.enter .detached start with lineFault := true } else p

/-- A viewer port's line was lost while it was in use. -/
def lostInUse (p : Port) (present : Bool) : Bool :=
  (p.sample present).2 == some false && p.active

/-- The 1 ms sample of VPS1 to VPS4 (R119, R120). -/
def sampleLines (lines : Presence) (s : State) : State :=
  let lost := viewerPorts.any fun i => lostInUse (s.feeds.port i) (lineLevel lines i)
  let gained := viewerPorts.filter fun i => ((s.feeds.port i).sample (lineLevel lines i)).2 == some true
  let s1 := s.mapFeeds fun f => f.mapPorts fun i p =>
    match i with
    | .p0 => p
    | _ => (p.sample (lineLevel lines i)).1.lineChanged (retainStart s) (p.sample (lineLevel lines i)).2
  gained.foldl (fun s i => choose i s) (if lost then raise .portFault s1 else s1)

/-- The port's own part of start-up (R119, R115): line present is the first sample's, and the port
takes OFF, DETACHED or REFRESHING. -/
def Port.takeState (p : Port) (i : PortId) (lines : Presence) (start : Nat) : Port :=
  let p := match i with
    | .p0 => p
    | _ => { p with senseReading := lineLevel lines i, linePresent := lineLevel lines i }
  p.enter (if !p.enable then .off else if lineLevel lines i then .refreshing else .detached) start

/-- The ports take their states in start-up (R119, R189). -/
def portsTakeStates (s : State) : State :=
  chooseAll (s.mapFeeds fun f => f.mapPorts fun i p => p.takeState i s.presence (retainStart s))

/-! ## Pacing (R126) -/

/-- A pacing expiry: every port that is not OFF gathers credit, and choices follow. -/
def pace (s : State) : State :=
  chooseAll (s.mapFeeds fun f => f.mapPorts fun _ p =>
    if p.state = .off then p
    else { p with credit := min (p.credit + (f.profile p.profile).rate) (f.profile p.profile).cap })

/-! ## Job open (R134) -/

/-- The job open at the feed unit: every port's positions become 0, and a port that is REFRESHING or
FOLLOWING enters REFRESHING. -/
def feedJobOpen (s : State) : State :=
  chooseAll (s.mapFeeds fun f => f.mapPorts fun _ p =>
    if p.active then p.enter .refreshing (retainStart s)
    else { p with base := 0, displayed := 0, valid := 0, settledSent := 0 })

/-! ## Notice space (R182) -/

/-- A notice has left the queue: deferred CONDITION notices, then port 0, claim the space. -/
def noticeSpaceFreed (s : State) : State := choosePortZero (offerDeferred allConditions s)

end Sys2Proof.Machine
end

