-- ==== Sys2Proof/Machine/Stream.lean ====
section
/-! DEFINITION. The text stream (chapter 6): edits, the settle test and settling. -/

namespace Sys2Proof.Machine

/-! ## Edits (R105, R106) -/

/-- An APPEND of n bytes at the stream's end (R105). The bytes are those the engine has stored. -/
def applyAppend (n : Nat) (s : State) : State :=
  feedLength (s.mapStream fun t => { t with length := t.length + n })

/-- A RETRACT to a position (R106). -/
def applyRetract (pos : Nat) (s : State) : State :=
  feedRetract pos (s.mapStream fun t => { t with length := pos })

/-! ## Settling (R108 to R110) -/

/-- A chunk's strokes are durable as far as the stream has been told. -/
def Stream.covers (t : Stream) (c : Chunk) : Bool := t.durableSeen.any (fun n => c.lastSeq ≤ n)

/-- The oldest chunk qualifies to settle (R108). -/
def qualifies (s : State) (c : Chunk) : Bool :=
  !c.isOpen && (s.stream.covers c || s.stream.modeSeen == .passing)

/-- A chunk freed by settling reaches the engine (R78): it ends a stall. -/
def Engine.chunkFreed (e : Engine) : Engine :=
  if e.state = .stalled then e.beginEvaluation e.forceOwed else e

/-- The last n elements of a list. -/
def lastN (n : Nat) (bs : List Byte) : List Byte := bs.drop (bs.length - n)

/-- The oldest chunk settles (R109, R110). -/
def settleOldest (c : Chunk) (s : State) : State :=
  let unrecorded := s.stream.modeSeen == .passing && !s.stream.covers c
  let s := s.mapStream fun t => { t with
    unrecordedPoint := if unrecorded && t.unrecordedPoint.isNone then some c.start else t.unrecordedPoint
    store := lastN Config.retainedBytes (t.store ++ c.text)
    settled := t.settled + c.text.length }
  let s := s.mapEngine fun e => { e with chunks := e.chunks.drop 1 }.chunkFreed
  feedSettled s

/-- The settle test over the chunks given, oldest first: it stops at the first that does not qualify
(R108). -/
def settleFrom : List Chunk → State → State
  | [], s => s
  | c :: rest, s => if qualifies s c then settleFrom rest (settleOldest c s) else s

/-- The settle test (R108). -/
def settleTest (s : State) : State := settleFrom s.engine.chunks s

/-- The journal reports an advance of its durable sequence (R107). -/
def durableAdvanced (n : Nat) (s : State) : State :=
  settleTest (s.mapStream fun t => { t with durableSeen := some n })

/-- The journal reports a change of its mode (R107). -/
def modeChanged (m : JournalMode) (s : State) : State :=
  settleTest (s.mapStream fun t => { t with modeSeen := m })

/-! ## Job boundaries (R112, R114) -/

/-- The job open at the text stream (R112). -/
def streamJobOpen (m : JournalMode) (s : State) : State :=
  s.mapStream fun _ => { Stream.reset with modeSeen := m }

/-- The job abort at the text stream (R114), after the engine has discarded its work. -/
def streamJobAbort (s : State) : State :=
  if s.stream.settled < s.stream.length then applyRetract s.stream.settled s else s

end Sys2Proof.Machine
end

