-- ==== Sys2Proof/Machine/JournalOps.lean ====
section
/-! DEFINITION. The journal controller (chapter 8): record formats, writing and committing, failures,
sectors, modes, amendments, and the end of a close. -/

namespace Sys2Proof.Machine

/-! ## Slots and status bytes (section 8.1, section 8.2) -/

def statusBlank : Byte := 0xFF
def statusOpen : Byte := 0x7F
def statusCommitted : Byte := 0x3F
def statusCorrected : Byte := 0x1F
def statusVoid : Byte := 0x00

/-- Slots of a sector: slot 0 is the header (R136). -/
def sectorSlots : Nat := 128

/-- The address of a slot of the region (R136). -/
def slotAddr (s : State) (sector slot : Nat) : Nat :=
  (s.params.journalBase + sector) * Config.sectorBytes + 32 * slot

/-- The kind byte of a record. -/
def JournalKind.byte : JournalKind → Byte
  | .jobOpen => 0x02 | .jobClose => 0x03 | .stroke => 0x04 | .mark => 0x05 | .strike => 0x06

/-- A slot's 32 bytes: a status, bytes 1 to 29, and their check. -/
def slotBytes (status : Byte) (content : List Byte) : List Byte := status :: (content ++ crcBytes content)

/-- Bytes 1 to 29 of a record (R138). -/
def JournalRecord.content (r : JournalRecord) (job : Nat) (rewrite : Bool) : List Byte :=
  [r.kind.byte, recordFlags r.correction r.degraded rewrite r.audio.isSome] ++ be8 r.gap ++ be32 r.seq ++
    be16 job ++ be32 r.body ++ beWord r.downTime ++ beWord r.closeTime ++ audioBytes r.audio

/-- Bytes 1 to 29 of a sector header (R138). -/
def headerContent (serial job first : Nat) : List Byte :=
  [0x01#8, 0x00#8, 0x00#8] ++ be32 serial ++ be16 job ++ be32 first ++ List.replicate 16 0xFF#8

/-- A ring record as a journal record (R138). -/
def ringJournalRecord (r : RingRecord) : JournalRecord where
  kind := match r.body.kind with | .stroke => .stroke | .mark => .mark | .strike => .strike
  correction := r.body.correction
  degraded := r.body.degraded
  gap := r.gap
  seq := r.seq
  body := r.body.value.toNat
  downTime := r.body.downTime
  closeTime := r.body.closeTime
  audio := r.body.audio

/-- The JOB_OPEN record (R138). -/
def jobOpenRecord : JournalRecord := ⟨.jobOpen, false, false, 0, 0, 0, 0, 0, none⟩

/-- The JOB_CLOSE record, from the ring and the stroke former as its write begins (R138, R33). -/
def jobCloseRecord (s : State) : JournalRecord where
  kind := .jobClose
  correction := false
  degraded := false
  gap := s.ring.gap
  seq := s.ring.nextSeq
  body := s.ring.lost
  downTime := s.former.jobClock
  closeTime := s.former.jobClock
  audio := if s.former.audioSeen then some (s.former.audioCount, s.former.audioCount) else none

/-- A record that came through the ring. -/
def JournalKind.fromRing : JournalKind → Bool
  | .stroke => true | .mark => true | .strike => true | .jobOpen => false | .jobClose => false

/-! ## The sector table -/

/-- A sector's row. -/
def Journal.row (j : Journal) (i : Nat) : SectorRow := j.sectors.getD i ⟨.blank, none⟩

/-- A sector takes a class; it keeps its serial. -/
def Journal.setClass (j : Journal) (i : Nat) (c : SectorClass) : Journal :=
  { j with sectors := j.sectors.set i { j.row i with cls := c } }

/-- Sectors of class BLANK. -/
def Journal.countBlank (j : Journal) : Nat := j.sectors.countP (fun r => r.cls == .blank)

/-- Insertion of a sector into a list in descending serial order. -/
def insertBySerial (x : Nat × Nat) : List (Nat × Nat) → List (Nat × Nat)
  | [] => [x]
  | y :: ys => if y.2 ≤ x.2 then x :: y :: ys else y :: insertBySerial x ys

/-- The sectors that have a serial, with it, in descending serial order. -/
def Journal.bySerial (j : Journal) : List (Nat × Nat) :=
  (j.sectors.zipIdx.filterMap fun ri => ri.1.serial.map fun n => (ri.2, n)).foldr insertBySerial []

/-- The sectors with a serial below one, in descending serial order. -/
def Journal.sectorsBelow (j : Journal) (serial : Nat) : List Nat :=
  (j.bySerial.filter fun x => x.2 < serial).map (·.1)

/-- The append point is set; the slot there has not been used. -/
def Journal.setAppend (j : Journal) (slot : Nat) : Journal := { j with appendPoint := slot, slotSpent := false }

/-- The append point as a job abort leaves it: after the last slot used (R153). -/
def Journal.appendAfterUsed (j : Journal) : Nat := if j.slotSpent then j.appendPoint + 1 else j.appendPoint

/-- No slot is left in the current sector, or there is none (R141). -/
def Journal.needsSector (j : Journal) : Bool := j.current.isNone || sectorSlots ≤ j.appendPoint

/-- The BLANK sectors a seek considers, from a starting sector on (R145); with none, from the region's
first sector. -/
def Journal.candidates (j : Journal) (start : Option Nat) : List Nat :=
  let n := j.sectors.length
  match start with
  | none => (List.range n).filter fun i => (j.row i).cls == .blank
  | some c => ((List.range (n - 1)).map fun k => (c + 1 + k) % n).filter fun i => (j.row i).cls == .blank

/-! ## The end of a close (R174) -/

/-- The JOB_CLOSE summary's fields (R174, R181). -/
def closeSummary (s : State) (mode : JournalMode) (cause : JournalCause) : List Byte :=
  be16 s.job.number ++ be32 s.ring.nextSeq ++
    be32 (match s.journal.durable with | some n => n + 1 | none => 0) ++
    be32 s.ring.lost ++ be32 s.job.discarded ++ be32 s.journal.amendmentsDropped ++
    [journalModeCode mode, journalCauseCode cause, boolCode s.stream.unrecordedPoint.isSome]

/-- The close completes (R174): the summary stands as it was before the journal became IDLE. -/
def closeCompletes (summary : List Byte) (s : State) : State :=
  let tag := s.job.closePending
  let s := s.mapJob fun j => { j with state := .noJob, closePending := none }
  let s := s.mapEngine fun e => { e with state := .idle, closeMark := false }
  match tag with
  | some t => reply kindJobClose t .ok summary s
  | none => s

/-- The journal reports that it has closed (R152). -/
def journalClosed (s : State) : State :=
  let summary := closeSummary s s.journal.mode s.journal.cause
  let s := s.mapJournal fun j => { j with closePending := false, mode := .idle, cause := .noCause, op := .waiting }
  closeCompletes summary (modeChanged .idle s)

/-! ## PASSING (R148) -/

/-- The mode becomes PASSING (R148). The record in hand is passed with the rest (R142, R152). -/
def enterPassing (cause : JournalCause) (s : State) : State :=
  let s := s.mapJournal fun j =>
    { j with
      mode := .passing, cause := cause, amendments := [], op := .waiting
      rewriteDue := none, jobOpenDue := false }
  modeChanged .passing (raise .journalPassing s)

/-! ## Seeking the next sector (R145) -/

/-- A seek begins: a link-side item. final: finding none makes the mode PASSING (R146). -/
def startSeek (start : Option Nat) (final : Bool) (s : State) : State :=
  pushItem (.nextSeek (s.journal.candidates start) none final)
    (s.mapJournal fun j => { j with op := .seeking })

/-- The seek's end (R145, R146). -/
def seekEnded (found : Option Nat) (final : Bool) (s : State) : State :=
  let s := s.mapJournal fun j =>
    { j with nextSector := found, op := if j.op = .seeking then .waiting else j.op }
  if final && found.isNone && s.journal.mode == .running && s.journal.needsSector then
    enterPassing .exhausted s
  else s

/-- An item is a next-sector seek. -/
def LinkItem.isSeek : LinkItem → Bool
  | .nextSeek _ _ _ => true
  | .settingsLoad _ => false
  | .layerSet _ _ _ _ _ => false
  | .validation _ => false
  | .imageRead _ _ _ => false
  | .imageWrite _ _ _ _ => false
  | .imageErase _ _ => false
  | .journalSeek _ _ _ _ _ _ _ => false
  | .journalRead _ _ _ => false
  | .journalErase _ _ _ => false
  | .storeSettings _ _ _ _ => false

/-- A seek ends early, with the next sector as it stands; a READ of it already granted completes and its
data is dropped (R145). -/
def endSeekEarly (s : State) : State :=
  let headSeeks := s.port.headBegun && (s.port.items.head?.any LinkItem.isSeek)
  let s := s.mapJournal fun j => { j with op := if j.op = .seeking then .waiting else j.op }
  let s := if headSeeks then dropInFlight .link s else s
  s.mapPort fun p =>
    { p with
      items := p.items.filter fun i => !i.isSeek
      headBegun := p.headBegun && !headSeeks
      linkRequest := if headSeeks then none else p.linkRequest }

/-! ## Exports and the scan (R154, R155) -/

/-- A JOURNAL_SEEK or a JOURNAL_READ. -/
def LinkItem.isExport : LinkItem → Bool
  | .journalSeek _ _ _ _ _ _ _ => true
  | .journalRead _ _ _ => true
  | .settingsLoad _ => false
  | .layerSet _ _ _ _ _ => false
  | .validation _ => false
  | .imageRead _ _ _ => false
  | .imageWrite _ _ _ _ => false
  | .imageErase _ _ => false
  | .journalErase _ _ _ => false
  | .nextSeek _ _ _ => false
  | .storeSettings _ _ _ _ => false

/-- An export as it was when it was taken; any other item as it is. -/
def LinkItem.afresh : LinkItem → LinkItem
  | .journalSeek tag job seq _ _ _ _ => .journalSeek tag job seq 0 0 false []
  | .journalRead tag wanted _ => .journalRead tag wanted []
  | .settingsLoad parts => .settingsLoad parts
  | .layerSet tag layer base count enable => .layerSet tag layer base count enable
  | .validation layers => .validation layers
  | .imageRead tag addr len => .imageRead tag addr len
  | .imageWrite tag addr bytes reading => .imageWrite tag addr bytes reading
  | .imageErase tag sector => .imageErase tag sector
  | .journalErase tag todo erased => .journalErase tag todo erased
  | .nextSeek candidates slot0Blank final => .nextSeek candidates slot0Blank final
  | .storeSettings tag record done same => .storeSettings tag record done same

/-- An export in hand when a scan begins: a READ of it already granted completes and its data is dropped, and
the export begins afresh after the scan, in the table and from the cursor that the scan sets. DESIGN CHOICE
(log 43). -/
def restartExport (s : State) : State :=
  if s.port.headBegun && s.port.items.head?.any LinkItem.isExport then
    (dropInFlight .link s).mapPort fun p =>
      { p with
        items := (p.items.head?.map LinkItem.afresh).toList ++ p.items.drop 1
        headBegun := false, linkRequest := none }
  else s

/-! ## Writing a record (R140) -/

/-- A record's write begins at the append point of the current sector. -/
def startWrite (sector : Nat) (r : JournalRecord) (rewrite : Bool) (s : State) : State :=
  let w : RecordWrite := ⟨sector, s.journal.appendPoint, r, rewrite⟩
  requestJournal
    (.program (slotAddr s w.sector w.slot) (slotBytes statusOpen (r.content s.journal.jobNumber rewrite)))
    (s.mapJournal fun j => { j with op := .record w .program, rewriteDue := none })

/-- Opening a sector for the record that waits for a place (R144, steps 1 to 3). -/
def openSector (sector first : Nat) (s : State) : State :=
  let serial := s.journal.highestSerial + 1
  let bytes := slotBytes statusOpen (headerContent serial s.journal.jobNumber first)
  let s := s.mapJournal fun j =>
    { j with
      sectors := j.sectors.set sector ⟨.inUse, some serial⟩
      blankCount := j.blankCount - 1
      current := some sector
      slotSpent := false
      highestSerial := serial
      op := .header sector bytes .program }
  requestJournal (.program (slotAddr s sector 0) bytes) (testJournalLow s)

/-- A record takes its place: a write, or first the opening of the next sector (R141 item 2). The first
argument is the sequence number a header would name. -/
def place (first : Nat) (write : Nat → State → State) (s : State) : Option State :=
  if s.journal.needsSector then s.journal.nextSector.map fun n => openSector n first s
  else s.journal.current.map fun c => write c s

/-- The JOB_CLOSE record's write begins: it takes the ring's gap count (R33). -/
def startCloseWrite (sector : Nat) (s : State) : State :=
  startWrite sector (jobCloseRecord s) false (s.mapRing fun r => { r with gap := 0 })

/-! ## Amendments (R149, R150) -/

/-- An amendment is handed to the journal controller (R149). -/
def queueAmendment (seq : Nat) (s : State) : State :=
  s.mapJournal fun j =>
    if j.mode = .running then
      if j.amendments.length < Config.amendmentPlaces then { j with amendments := j.amendments ++ [seq] }
      else { j with amendmentsDropped := satIncr max32 j.amendmentsDropped }
    else j

/-- The amendment at the head is due (R141 item 1). -/
def Journal.amendmentDue (j : Journal) : Option Nat :=
  match j.amendments with
  | [] => none
  | a :: _ => if j.durable.any (fun n => a ≤ n) then some a else none

/-- The amendment in hand leaves the queue; discarded adds to the count (R150). -/
def endAmendment (discarded : Bool) (s : State) : State :=
  s.mapJournal fun j =>
    { j with
      amendments := j.amendments.drop 1
      amendmentsDropped := if discarded then satIncr max32 j.amendmentsDropped else j.amendmentsDropped
      op := .waiting }

/-- A slot's bytes 0 to 9 are read in an amendment's search (R150 step 1); a slot of 0 goes on to the next
sector to search, and with none the record is not found. -/
def locateAt (seq sector slot : Nat) (later : List Nat) (s : State) : State :=
  if 1 ≤ slot then
    requestJournal (.read (slotAddr s sector slot) 10)
      (s.mapJournal fun j => { j with op := .locate seq sector slot later })
  else
    match later with
    | [] => endAmendment true s
    | c :: rest =>
      requestJournal (.read (slotAddr s c 127) 10)
        (s.mapJournal fun j => { j with op := .locate seq c 127 rest })

/-- An amendment's search begins, backward from the append point (R150 step 1). -/
def startLocate (seq : Nat) (s : State) : State :=
  match s.journal.current with
  | some c =>
    locateAt seq c (s.journal.appendPoint - 1)
      (s.journal.sectorsBelow ((s.journal.row c).serial.getD 0)) s
  | none => locateAt seq 0 0 (s.journal.bySerial.map (·.1)) s

/-- The record is marked CORRECTED (R150 step 2). -/
def startCorrect (sector slot : Nat) (s : State) : State :=
  requestJournal (.program (slotAddr s sector slot) [statusCorrected])
    (s.mapJournal fun j => { j with op := .correct sector slot false })

/-- The search takes a slot's bytes 0 to 9 (R150 step 1). -/
def locateStep (seq sector slot : Nat) (later : List Nat) (bytes : List Byte) (s : State) : State :=
  let status := byteAt bytes 0
  let kind := byteAt bytes 1
  let recSeq := fieldAt bytes 4 4
  let job := fieldAt bytes 8 2
  if status = statusBlank ∨ status = statusVoid then locateAt seq sector (slot - 1) later s
  else if job ≠ s.journal.jobNumber then endAmendment true s
  else if status = statusCommitted ∧ kind = JournalKind.stroke.byte ∧ recSeq = seq then
    startCorrect sector slot s
  else if recSeq < seq ∨ kind = JournalKind.jobOpen.byte then endAmendment true s
  else locateAt seq sector (slot - 1) later s

/-! ## Committing (R140) -/

/-- A record's commit (R140): append point, durable sequence, failures, journal cursor, then a due
amendment or a full sector (R146), or the end of the close (R152). -/
def commitRecord (w : RecordWrite) (s : State) : State :=
  let s := s.mapJournal fun j =>
    { j with
      appendPoint := w.slot + 1, slotSpent := false, durable := some w.record.seq, consecutiveFailures := 0
      op := .waiting, jobOpenDue := j.jobOpenDue && w.record.kind != .jobOpen }
  let s := durableAdvanced w.record.seq s
  let s := if w.record.kind.fromRing then s.mapRing Ring.passJournal else s
  if w.record.kind = .jobClose then journalClosed s
  else if sectorSlots ≤ w.slot + 1 ∧ s.journal.nextSector = none ∧ s.journal.blankCount = 0 then
    enterPassing .exhausted s
  else if s.journal.amendments.head? = some w.record.seq then startCorrect w.sector w.slot s
  else s

/-! ## Failures (R142 to R144) -/

/-- A failure of a record write, in any of its four steps (R142). -/
def recordFailed (w : RecordWrite) (s : State) : State :=
  requestJournal (.program (slotAddr s w.sector w.slot) [statusVoid])
    (s.mapJournal fun j =>
      { j with
        consecutiveFailures := satIncr 4 j.consecutiveFailures, sectorFailures := satIncr 3 j.sectorFailures
        op := .voidRecord w false })

/-- A VOID program of a record failed (R142). The append point stays on the slot (log 25). -/
def voidFailed (s : State) : State :=
  enterPassing .failed (s.mapJournal fun j =>
    { j with
      consecutiveFailures := satIncr 4 j.consecutiveFailures, sectorFailures := satIncr 3 j.sectorFailures
      slotSpent := true })

/-- The current sector is retired (R143): its header's status is to be programmed VOID. -/
def retireCurrent (sector : Nat) (s : State) : State :=
  requestJournal (.program (slotAddr s sector 0) [statusVoid])
    (s.mapJournal fun j =>
      { j.setClass sector .retired with current := none, slotSpent := false, op := .retire sector false })

/-- A failed copy has been voided: the first line of R142's table that applies. In its first line the append
point stays on the slot (log 25); in its last two the record is written again after it. -/
def recordVoided (w : RecordWrite) (s : State) : State :=
  if 3 ≤ s.journal.consecutiveFailures then
    enterPassing .failed (s.mapJournal fun j => { j with slotSpent := true })
  else
    let s := s.mapJournal fun j => { j with rewriteDue := some w.record }
    if s.journal.sectorFailures = 2 then retireCurrent w.sector s
    else s.mapJournal fun j => { j.setAppend (w.slot + 1) with op := .waiting }

/-- A failure of the header VOID program of a retired sector (R143). -/
def retireFailed (s : State) : State :=
  let s := s.mapJournal fun j => { j with consecutiveFailures := satIncr 4 j.consecutiveFailures, op := .waiting }
  if 3 ≤ s.journal.consecutiveFailures then enterPassing .failed s else s

/-- A header's commit (R144 step 4). -/
def headerCommitted (sector : Nat) (s : State) : State :=
  startSeek (some sector) false (s.mapJournal fun j =>
    { j.setAppend 1 with consecutiveFailures := 0, sectorFailures := 0, nextSector := none })

/-- The opening of a sector ends in PASSING (R144): the next sector, which still names the sector being
opened, becomes none, since it names a BLANK sector or none (R137, log 30). DESIGN CHOICE (log 55): the sector
whose header never committed stays the current sector, with the append point as it stood, so a later job
may write into it. -/
def openingPasses (s : State) : State :=
  enterPassing .failed (s.mapJournal fun j => { j with nextSector := none })

/-- A failure in any step of a header write (R144). -/
def headerFailed (sector : Nat) (s : State) : State :=
  let s := s.mapJournal fun j => { j with consecutiveFailures := satIncr 4 j.consecutiveFailures }
  if 3 ≤ s.journal.consecutiveFailures then openingPasses s
  else
    requestJournal (.program (slotAddr s sector 0) [statusVoid])
      (s.mapJournal fun j => { j with op := .voidHeader sector false })

/-- The sector of a voided header: RETIRED with no slot used (R144). -/
def Journal.dropOpened (j : Journal) (sector : Nat) : Journal :=
  { j.setClass sector .retired with current := none, slotSpent := false, nextSector := none }

/-- A failed header has been voided (R144). -/
def headerVoided (sector : Nat) (s : State) : State :=
  startSeek (some sector) false (s.mapJournal fun j => j.dropOpened sector)

/-- A VOID program of a header failed (R144). -/
def headerVoidFailed (s : State) : State :=
  openingPasses (s.mapJournal fun j => { j with consecutiveFailures := satIncr 4 j.consecutiveFailures })

/-! ## The choice of work (R141) -/

/-- The conditions under which JOB_CLOSE is written, or the close reported in PASSING (R152). -/
def closeDue (s : State) : Bool :=
  s.journal.closePending && s.ring.drainedJournal && s.job.translationDrained && s.journal.amendments.isEmpty

/-- No sector to go on in: a seek runs first if the BLANK count is above 0, then PASSING (R146). -/
def sectorExhausted (s : State) : State :=
  if 0 < s.journal.blankCount then startSeek s.journal.current true s else enterPassing .exhausted s

/-- Work in RUNNING, the first of R141's items that applies; a record to be written again comes before
them, since R142 writes it in the step its copy is voided. -/
def runningWork (s : State) : Option State :=
  match s.journal.rewriteDue, s.journal.amendmentDue with
  | none, some a => some (startLocate a s)
  | rewrite, _ =>
    if s.journal.needsSector && s.journal.nextSector.isNone then some (sectorExhausted s)
    else
      match rewrite with
      | some r => place r.seq (fun c => startWrite c r true) s
      | none =>
        if s.journal.jobOpenDue then place 0 (fun c => startWrite c jobOpenRecord false) s
        else
          match s.ring.recordAt s.ring.journalCursor with
          | some r => place r.seq (fun c => startWrite c (ringJournalRecord r) false) s
          | none => if closeDue s then place s.ring.nextSeq startCloseWrite s else none

/-- The journal's next work, when it is WAITING with no scan and no abort work in hand (R141). -/
def journalStep (s : State) : Option State :=
  if s.journal.op ≠ .waiting ∨ s.journal.scan.isSome ∨ s.journal.aborting then none
  else
    match s.journal.mode with
    | .idle => none
    | .running => runningWork s
    | .passing =>
      match s.ring.recordAt s.ring.journalCursor with
      | some _ => some (s.mapRing Ring.passJournal)
      | none => if closeDue s then some (journalClosed s) else none

end Sys2Proof.Machine
end

