-- ==== Sys2Proof/Machine/Scan.lean ====
section
/-! DEFINITION. The journal's recovery scan (section 8.10). -/

namespace Sys2Proof.Machine

/-! ## Its end (R157 step 6, R158) -/

/-- The reply owed to whoever set off the scan (R136, R156): failed is set when the scan marked the
journal FAILED. -/
def scanReply (failed : Bool) (r : ScanReply) (s : State) : State :=
  match r with
  | .region tag =>
    if failed then reply kindSetParam tag .memoryFault [] s
    else
      reply kindSetParam tag .ok
        ([0x0A#8] ++ be16 s.params.journalBase ++ be16 s.params.journalCount ++ be16 s.journal.blankCount) s
  | .erase tag erased => reply kindJournalErase tag .ok (be16 erased) s

/-- The end of start-up (R170, R189): the job state becomes NO_JOB. -/
def endBoot (s : State) : State :=
  if s.boot = .recoveryScan then (s.mapJob fun j => { j with state := .noJob }).setBoot .done else s

/-- The scan is over: replies, and the end of start-up when it was the start-up scan. -/
def scanOver (failed : Bool) (s : State) : State :=
  let replies := s.journal.scanReplies
  let s := s.mapJournal fun j => { j with scan := none, scanReplies := [] }
  endBoot (replies.foldl (fun s r => scanReply failed r s) s)

/-- The export cursor that a scan sets (R155): slot 1 of the sector with the lowest serial, or the append point.
DESIGN CHOICE (log 24): without a serial there is no current sector, and the cursor names the region's first. -/
def Journal.setCursor (j : Journal) : Journal :=
  { j with
    cursorSector := ((j.bySerial.map (·.1)).getLast?).getD 0
    cursorSlot := if j.bySerial.isEmpty then j.appendPoint else 1 }

/-- The scan fails (R158). It empties the sector table, so the export cursor, which every scan sets (R155), is
at the append point. -/
def scanFailed (s : State) : State :=
  scanOver true (testJournalLow (s.mapJournal fun j =>
    { j with
      memoryFailed := true
      sectors := List.replicate s.params.journalCount ⟨.blank, none⟩
      current := none, nextSector := none, blankCount := 0 : Journal }.setCursor))

/-- Step 6 of the scan (R157). -/
def scanCounts (s : State) : State :=
  let s := s.mapJournal fun j =>
    { j with
      memoryFailed := false
      blankCount := j.countBlank
      nextSector := (j.candidates j.current).head?
      consecutiveFailures := 0
      sectorFailures := 0 : Journal }.setCursor
  scanOver false (testJournalLow s)

/-! ## Its steps (R157) -/

/-- A read or program of the scan is requested. -/
def scanRequest (stage : ScanStage) (op : MemOp) (s : State) : State :=
  requestJournal op (s.mapJournal fun j => { j with scan := some stage })

/-- Step 5 at a slot; a slot of 0 goes on to the next sector, and with none there is no unclosed job. -/
def scanLatest (sector slot : Nat) (later : List Nat) (s : State) : State :=
  if 1 ≤ slot then scanRequest (.latest sector slot later) (.read (slotAddr s sector slot) 10) s
  else
    match later with
    | [] => scanCounts (s.mapJournal fun j => { j with unclosedJob := none })
    | c :: rest => scanRequest (.latest c 127 rest) (.read (slotAddr s c 127) 10) s

/-- Step 5 begins: the sectors are read in descending serial (R157). -/
def startLatest (s : State) : State := scanLatest 0 0 (s.journal.bySerial.map (·.1)) s

/-- Step 3: the next slot to be voided, or on to step 5. -/
def scanVoids (todo : List Nat) (s : State) : State :=
  match s.journal.current, todo with
  | some c, k :: _ => scanRequest (.voids todo) (.program (slotAddr s c k) [statusVoid]) s
  | _, _ => startLatest s

/-- A status that step 3 leaves alone. -/
def finishedStatus (b : Byte) : Bool := b == statusCommitted || b == statusCorrected || b == statusVoid

/-- The append point one beyond the last slot that is not all FFh (R157 step 2); seen holds slot 1
first. -/
def appendAfter (seen : List (Byte × Bool)) : Nat :=
  (seen.reverse.dropWhile (·.2)).length + 1

/-- The slots below the append point that step 3 voids. -/
def slotsToVoid (seen : List (Byte × Bool)) : List Nat :=
  (seen.take (appendAfter seen - 1)).zipIdx.filterMap fun xi =>
    if finishedStatus xi.1.1 then none else some (xi.2 + 1)

/-- Steps 2 and 3 when every slot of the current sector has been read. -/
def slotsRead (seen : List (Byte × Bool)) (s : State) : State :=
  scanVoids (slotsToVoid seen) (s.mapJournal fun j => { j with appendPoint := appendAfter seen })

/-- Step 2: the current sector is the IN_USE sector of highest serial; its slots are read. DESIGN CHOICE
(log 47): in a table without a serial the highest serial is 0. -/
def startSlots (s : State) : State :=
  let s := s.mapJournal fun j =>
    { j with
      highestSerial := ((j.bySerial.map (·.2)).head?).getD 0
      current := ((j.bySerial.filter fun x => (j.row x.1).cls == .inUse).map (·.1)).head? }
  match s.journal.current with
  | some c => scanRequest (.slots 1 []) (.read (slotAddr s c 1) 32) s
  | none => startLatest (s.mapJournal fun j => { j with appendPoint := 1 })

/-- Step 1 at a sector, or on to step 2 past the last. -/
def scanClassify (sector : Nat) (s : State) : State :=
  if sector < s.params.journalCount then
    scanRequest (.classify sector false) (.read (slotAddr s sector 0) 32) s
  else startSlots s

/-- All bytes are FFh. -/
def allBlank (bytes : List Byte) : Bool := bytes.all (· == 0xFF)

/-- Bytes 1 to 29 of a slot pass the check (section 8.2). -/
def slotChecks (bytes : List Byte) : Bool := crcBytes ((bytes.drop 1).take 29) == bytes.drop 30

/-- The class and serial that slot 0 gives when it is not all FFh (R157 step 1). -/
def headerRow (bytes : List Byte) : SectorRow :=
  if byteAt bytes 0 = statusCommitted then ⟨.inUse, some (fieldAt bytes 4 4)⟩
  else if byteAt bytes 0 = statusVoid ∧ slotChecks bytes then ⟨.retired, some (fieldAt bytes 4 4)⟩
  else ⟨.retired, none⟩

/-- A sector is classed and the scan goes on to the next. -/
def classed (sector : Nat) (row : SectorRow) (s : State) : State :=
  scanClassify (sector + 1) (s.mapJournal fun j => { j with sectors := j.sectors.set sector row })

/-- The recovery scan begins (R157): a seek ends early, an export in hand and a scan already in progress begin
afresh. -/
def beginScan (replies : List ScanReply) (s : State) : State :=
  let s := dropInFlight .journal (restartExport (endSeekEarly s))
  let s := s.mapPort fun p => { p with journalRequest := none }
  scanClassify 0 (s.mapJournal fun j =>
    { j with
      sectors := List.replicate s.params.journalCount ⟨.blank, none⟩
      current := none, nextSector := none, slotSpent := false, op := .waiting
      scanReplies := j.scanReplies ++ replies })

/-- The start-up scan (R189): it ends at once when the device gave no ready answer (R158, R168). -/
def startUpScan (s : State) : State :=
  if s.port.deviceReady then beginScan [] s else scanFailed s

/-- A timeout of the scan's operation (R158): it ends the scan in steps 1, 2 and 5, and leaves the slot in
step 3. -/
def scanTimeout (stage : ScanStage) (s : State) : State :=
  match stage with
  | .classify _ _ => scanFailed s
  | .slots _ _ => scanFailed s
  | .voids todo => scanVoids (todo.drop 1) s
  | .latest _ _ _ => scanFailed s

/-- The scan takes the success of its operation. -/
def scanStep (stage : ScanStage) (bytes : List Byte) (s : State) : State :=
  match stage with
  | .classify sector false =>
    if allBlank bytes then
      scanRequest (.classify sector true) (.read (slotAddr s sector 1) 32) s
    else classed sector (headerRow bytes) s
  | .classify sector true =>
    classed sector (if allBlank bytes then ⟨.blank, none⟩ else ⟨.retired, none⟩) s
  | .slots k seen =>
    let seen := seen ++ [(byteAt bytes 0, allBlank bytes)]
    match s.journal.current with
    | some c =>
      if k < 127 then scanRequest (.slots (k + 1) seen) (.read (slotAddr s c (k + 1)) 32) s
      else slotsRead seen s
    | none => startLatest s
  | .voids todo => scanVoids (todo.drop 1) s
  | .latest sector slot later =>
    let status := byteAt bytes 0
    if status = statusCommitted ∨ status = statusCorrected then
      scanCounts (s.mapJournal fun j =>
        { j with
          unclosedJob :=
            if byteAt bytes 1 = JournalKind.jobClose.byte then none else some (fieldAt bytes 8 2) })
    else scanLatest sector (slot - 1) later s

end Sys2Proof.Machine
end

