-- ==== Sys2Proof/Machine/JournalPort.lean ====
section
/-! DEFINITION. What the journal controller does with the outcome of its memory operations (R140, R142
to R144, R150, R157), and job abort (R153, R164). -/

namespace Sys2Proof.Machine

/-- The outcome of an operation (R160, R161). -/
inductive OpOutcome
  | success (bytes : List Byte)
  | timeout
deriving DecidableEq, Repr

/-- A read-back of one status byte gave the value wanted. -/
def readsBack (status : Byte) (bytes : List Byte) : Bool := byteAt bytes 0 == status

/-! ## Outcomes in the ordinary course -/

/-- The next step of a record write (R140). -/
def recordOutcome (w : RecordWrite) (step : WriteStep) (o : OpOutcome) (s : State) : State :=
  let addr := slotAddr s w.sector w.slot
  let goOn (next : WriteStep) (op : MemOp) : State :=
    requestJournal op (s.mapJournal fun j => { j with op := .record w next })
  match step, o with
  | .program, .success _ => goOn .verify (.read addr 32)
  | .verify, .success bytes =>
    if bytes = slotBytes statusOpen (w.record.content s.journal.jobNumber w.rewrite) then
      goOn .commit (.program addr [statusCommitted])
    else recordFailed w s
  | .commit, .success _ => goOn .check (.read addr 1)
  | .check, .success bytes => if readsBack statusCommitted bytes then commitRecord w s else recordFailed w s
  | .program, .timeout => recordFailed w s
  | .verify, .timeout => recordFailed w s
  | .commit, .timeout => recordFailed w s
  | .check, .timeout => recordFailed w s

/-- The next step of a header write (R144). -/
def headerOutcome (sector : Nat) (content : List Byte) (step : WriteStep) (o : OpOutcome) (s : State) : State :=
  let addr := slotAddr s sector 0
  let goOn (next : WriteStep) (op : MemOp) : State :=
    requestJournal op (s.mapJournal fun j => { j with op := .header sector content next })
  match step, o with
  | .program, .success _ => goOn .verify (.read addr 32)
  | .verify, .success bytes =>
    if bytes = content then goOn .commit (.program addr [statusCommitted]) else headerFailed sector s
  | .commit, .success _ => goOn .check (.read addr 1)
  | .check, .success bytes =>
    if readsBack statusCommitted bytes then headerCommitted sector s else headerFailed sector s
  | .program, .timeout => headerFailed sector s
  | .verify, .timeout => headerFailed sector s
  | .commit, .timeout => headerFailed sector s
  | .check, .timeout => headerFailed sector s

/-- The outcome of the journal controller's operation, by what it is doing. -/
def workOutcome (o : OpOutcome) (s : State) : State :=
  match s.journal.op, o with
  | .waiting, _ => s
  | .seeking, _ => s
  | .abortVoid, _ => s
  | .record w step, o => recordOutcome w step o s
  | .voidRecord _ _, .timeout => voidFailed s
  | .voidRecord w false, .success _ =>
    requestJournal (.read (slotAddr s w.sector w.slot) 1)
      (s.mapJournal fun j => { j with op := .voidRecord w true })
  | .voidRecord w true, .success bytes =>
    if readsBack statusVoid bytes then recordVoided w s else voidFailed s
  | .retire _ _, .timeout => retireFailed s
  | .retire sector false, .success _ =>
    requestJournal (.read (slotAddr s sector 0) 1)
      (s.mapJournal fun j => { j with op := .retire sector true })
  | .retire _ true, .success bytes =>
    if readsBack statusVoid bytes then s.mapJournal fun j => { j with op := .waiting } else retireFailed s
  | .header sector content step, o => headerOutcome sector content step o s
  | .voidHeader _ _, .timeout => headerVoidFailed s
  | .voidHeader sector false, .success _ =>
    requestJournal (.read (slotAddr s sector 0) 1)
      (s.mapJournal fun j => { j with op := .voidHeader sector true })
  | .voidHeader sector true, .success bytes =>
    if readsBack statusVoid bytes then headerVoided sector s else headerVoidFailed s
  | .locate _ _ _ _, .timeout => endAmendment true s
  | .locate seq sector slot later, .success bytes => locateStep seq sector slot later bytes s
  | .correct _ _ _, .timeout => endAmendment true s
  | .correct sector slot false, .success _ =>
    requestJournal (.read (slotAddr s sector slot) 1)
      (s.mapJournal fun j => { j with op := .correct sector slot true })
  | .correct _ _ true, .success bytes => endAmendment (!readsBack statusCorrected bytes) s

/-! ## Job abort (R153, R164) -/

/-- The journal's abort work is done. -/
def abortWorkDone (s : State) : State := s.mapJournal fun j => { j with op := .waiting, aborting := false }

/-- The append point is left after a slot that was used (R153). -/
def useSlot (slot : Nat) (s : State) : State := s.mapJournal fun j => j.setAppend (slot + 1)

/-- The abort's VOID program of a slot is requested (R153, R164). -/
def requestAbortVoid (sector slot : Nat) (s : State) : State :=
  requestJournal (.program (slotAddr s sector slot) [statusVoid])
    (s.mapJournal fun j => { j with op := .abortVoid, aborting := true })

/-- A record's slot is voided by the abort. -/
def abortVoidRecord (w : RecordWrite) (s : State) : State :=
  requestAbortVoid w.sector w.slot (useSlot w.slot s)

/-- A header is voided by the abort, which retires its sector (R153). -/
def abortVoidHeader (sector : Nat) (s : State) : State :=
  requestAbortVoid sector 0 (s.mapJournal fun j => j.dropOpened sector)

/-- A record found committed at the abort (R153). -/
def abortCommitRecord (w : RecordWrite) (s : State) : State :=
  durableAdvanced w.record.seq (abortWorkDone ((useSlot w.slot s).mapJournal fun j =>
    { j with durable := some w.record.seq }))

/-- A header found committed at the abort (R153): the sector stays IN_USE with the append point at 1. It has
been opened, so both failure counts are 0 (R143, R144 step 4). -/
def abortCommitHeader (s : State) : State :=
  abortWorkDone (s.mapJournal fun j =>
    { j.setAppend 1 with consecutiveFailures := 0, sectorFailures := 0, nextSector := none })

/-- The outcome of the operation that was in flight at the abort, or of the abort's VOID program
(R153). DESIGN CHOICE (log 50): a READ that reads back a VOID or a CORRECTED program, or one of an amendment
search, which R153's table does not list, ends the abort work whatever its outcome. -/
def abortOutcome (o : OpOutcome) (s : State) : State :=
  match s.journal.op, o with
  | .record w .program, _ => abortVoidRecord w s
  | .record w .verify, _ => abortVoidRecord w s
  | .record w .commit, .success _ => abortCommitRecord w s
  | .record w .commit, .timeout => abortVoidRecord w s
  | .record w .check, .success bytes =>
    if readsBack statusCommitted bytes then abortCommitRecord w s else abortVoidRecord w s
  | .record w .check, .timeout => abortVoidRecord w s
  | .header n _ .program, _ => abortVoidHeader n s
  | .header n _ .verify, _ => abortVoidHeader n s
  | .header _ _ .commit, .success _ => abortCommitHeader s
  | .header n _ .commit, .timeout => abortVoidHeader n s
  | .header n _ .check, .success bytes =>
    if readsBack statusCommitted bytes then abortCommitHeader s else abortVoidHeader n s
  | .header n _ .check, .timeout => abortVoidHeader n s
  | .voidRecord w _, _ => abortWorkDone (useSlot w.slot s)
  | .voidHeader n _, _ => abortWorkDone (s.mapJournal fun j => j.dropOpened n)
  | .retire _ _, _ => abortWorkDone s
  | .locate _ _ _ _, _ => abortWorkDone s
  | .correct _ _ _, _ => abortWorkDone s
  | .abortVoid, _ => abortWorkDone s
  | .waiting, _ => abortWorkDone s
  | .seeking, _ => abortWorkDone s

/-- A journal request that was pending and not granted at the abort is withdrawn, and handled by its kind
(R164). DESIGN CHOICE (log 50): a withdrawn READ that reads back a VOID or a CORRECTED program, which R164's
table does not list, is handled as the withdrawn program would be. -/
def abortWithdrawn (s : State) : State :=
  let s := s.mapPort fun p => { p with journalRequest := none }
  match s.journal.op with
  | .record _ .program => abortWorkDone s
  | .record w .verify => abortVoidRecord w s
  | .record w .commit => abortVoidRecord w s
  | .record w .check => abortCommitRecord w s
  | .header n _ .program =>
    abortWorkDone (testJournalLow (s.mapJournal fun j =>
      { j with
        sectors := j.sectors.set n ⟨.blank, none⟩
        blankCount := j.blankCount + 1
        current := none }))
  | .header n _ .verify => abortVoidHeader n s
  | .header n _ .commit => abortVoidHeader n s
  | .header _ _ .check => abortCommitHeader s
  | .voidRecord w _ => abortWorkDone (useSlot w.slot s)
  | .voidHeader n _ => abortWorkDone (s.mapJournal fun j => j.dropOpened n)
  | .retire _ _ => abortWorkDone s
  | .locate _ _ _ _ => abortWorkDone s
  | .correct _ _ _ => abortWorkDone s
  | .abortVoid => abortWorkDone s
  | .waiting => abortWorkDone s
  | .seeking => abortWorkDone s

/-- An operation of the journal controller is in flight. -/
def MemPort.journalInFlight (p : MemPort) : Bool :=
  p.inFlight.any fun f => f.requester == .journal && !f.dropped

/-- The job abort at the journal controller (R153). DESIGN CHOICE (log 48): a READ of a next-sector seek in
flight, which is link-side work, does not hold the abort work back. The append point is left after a slot
that holds a failed copy (log 58); the outcome of a write then in hand sets it after that write's slot. -/
def journalAbort (s : State) : State :=
  let s := endSeekEarly (s.mapJournal fun j =>
    { j.setAppend j.appendAfterUsed with
      amendments := [], closePending := false, rewriteDue := none, jobOpenDue := false
      mode := .idle, cause := .noCause })
  let s := modeChanged .idle s
  if s.journal.op = .waiting then s
  else if s.port.journalInFlight then s.mapJournal fun j => { j with aborting := true }
  else abortWithdrawn s

/-! ## All outcomes -/

/-- The outcome of the journal controller's operation (R169). -/
def journalOutcome (o : OpOutcome) (s : State) : State :=
  match s.journal.scan with
  | some stage =>
    match o with
    | .success bytes => scanStep stage bytes s
    | .timeout => scanTimeout stage s
  | none => if s.journal.aborting then abortOutcome o s else workOutcome o s

end Sys2Proof.Machine
end

