-- ==== Sys2Proof/Machine/Translation.lean ====
section
/-! DEFINITION. The translation engine (chapters 4 and 5): taking records, the end of an evaluation,
corrections, redefinition, stalls and the forced-resolution timer. -/

namespace Sys2Proof.Machine

/-- An evaluation begins (R63). -/
def beginEvaluation (forced : Bool) (s : State) : State := s.mapEngine fun e => e.beginEvaluation forced

/-! ## Closing chunks (R73, R74) -/

/-- A chunk closed. -/
def Chunk.close (c : Chunk) : Chunk := { c with isOpen := false }

/-- Every OPEN chunk at or above a depth closes (R73, R74). -/
def closeReached (depth : Nat) (chunks : List Chunk) : List Chunk :=
  chunks.map fun c => if c.isOpen && depth ≤ c.afterCount then c.close else c

/-- A stroke taken counts toward every OPEN chunk (R61). -/
def countStroke (chunks : List Chunk) : List Chunk :=
  chunks.map fun c => if c.isOpen then { c with afterCount := c.afterCount + 1 } else c

/-! ## Reach-back (R97, R98) -/

/-- The strokes that chunks hold. -/
def strokesOf (chunks : List Chunk) : List StrokeEntry := chunks.flatMap (·.strokes)

/-- The longest run at the end of a list of chunks that is OPEN and holds no more strokes than the room
left (R98). -/
def reachBackRegion (room : Nat) : List Chunk → List Chunk
  | [] => []
  | c :: rest =>
    if (c :: rest).all (·.isOpen) && (strokesOf (c :: rest)).length ≤ room then c :: rest
    else reachBackRegion room rest

/-- The reach-back (R97). -/
def reachBack (s : State) : State :=
  let region := reachBackRegion (Config.windowStrokes - s.engine.window.length) s.engine.chunks
  match region with
  | [] => s
  | first :: _ =>
    let s1 := s.mapEngine fun e =>
      { e with
        chunks := e.chunks.take (e.chunks.length - region.length)
        carry := first.carryIn
        resolvedEnd := first.start
        tail := []
        window := strokesOf region ++ e.window }
    if first.start < s.stream.length then applyRetract first.start s1 else s1

/-! ## The end of an evaluation (R71) -/

/-- The length of the longest common front of two texts (R72). -/
def commonFront : List Byte → List Byte → Nat
  | a :: as, b :: bs => if a = b then commonFront as bs + 1 else 0
  | _, _ => 0

/-- The stream edits of an evaluation (R72, R106). DESIGN CHOICE (log 54): each edit is handed whole, so a port
makes a choice of output (R126) after the RETRACT and another after the APPEND; chapter 7 allows one choice
when it has taken both. -/
def handEdits (start : Nat) (old new : List Byte) (s : State) : State :=
  let c := commonFront old new
  let s := if c < old.length then applyRetract (start + c) s else s
  if c < new.length then applyAppend (new.length - c) s else s

/-- The mark step can be carried out, or is owed (R71 step 2, R76): the forced evaluation was not cut short
and has emptied the window. -/
def EvalRun.emptied (r : EvalRun) : Bool := r.forced && !r.cut && r.work.isEmpty

/-- The MARK chunk of the mark step (R76): its text and flags from the mark table as it stands. -/
def markChunk (p : Params) (m : HeldMark) (carry : Carry) (pos : Nat) : Chunk :=
  let entry := (p.mark m.number).getD ⟨0, []⟩
  joinChunk .mark [] (some m) entry.flags entry.text false carry pos

/-- The carry state after the last chunk of a list, or as it was. -/
def carryAfter (carry : Carry) (chunks : List Chunk) : Carry := (chunks.getLast?.map (·.carryOut)).getD carry

/-- The position after the last chunk of a list, or as it was. -/
def endAfter (pos : Nat) (chunks : List Chunk) : Nat := (chunks.getLast?.map Chunk.stop).getD pos

/-- What the end of an evaluation brings to the engine (R71 steps 1 to 3). -/
structure Finish where
  chunks : List Chunk
  /-- The chunks resolved by this evaluation, the MARK chunk among them. -/
  added : List Chunk
  heldMark : Option HeldMark
  /-- A mark step found the list full. -/
  markOwed : Bool
  closeStep : Bool
deriving DecidableEq, Repr

/-- R71 steps 1 and 2: the chunks join, then the mark step and the close step. -/
def finishChunks (s : State) (r : EvalRun) : Finish :=
  let e := s.engine
  let joined := joinAll (0 < s.params.depth) e.carry e.resolvedEnd r.resolved
  let closeStep := r.emptied && e.closeMark && s.ring.drainedTranslation
  let withMark : Finish :=
    match e.heldMark with
    | some m =>
      if r.emptied then
        let closed := (e.chunks ++ joined).map Chunk.close
        if closed.length < Config.chunkRecords then
          let mc := markChunk s.params m (carryAfter e.carry joined) (endAfter e.resolvedEnd joined)
          ⟨closed ++ [mc], joined ++ [mc], none, false, closeStep⟩
        else ⟨closed, joined, some m, true, closeStep⟩
      else ⟨e.chunks ++ joined, joined, some m, false, closeStep⟩
    | none => ⟨e.chunks ++ joined, joined, none, false, closeStep⟩
  if closeStep then { withMark with chunks := withMark.chunks.map Chunk.close } else withMark

/-- The engine's next state after an evaluation, by the first line of R71's table that applies. -/
def nextAfter (f : Finish) (cut : Bool) (s : State) : State :=
  if s.engine.reevaluationPending then
    let s := s.mapEngine fun e => { e with reevaluationPending := false, cache := [] }
    let s := if s.engine.reachBackPending then
        reachBack (s.mapEngine fun e => { e with reachBackPending := false })
      else s
    beginEvaluation s.engine.forceOwed s
  else if cut && s.engine.chunks.length < Config.chunkRecords then
    beginEvaluation s.engine.forceOwed s
  else if cut || f.markOwed then s.mapEngine fun e => { e with state := .stalled }
  else if Config.windowStrokes ≤ s.engine.window.length then s.mapEngine fun e => { e with state := .stalled }
  else if f.closeStep then
    (s.mapEngine fun e => { e with state := .draining }).mapJob fun j => { j with translationDrained := true }
  else s.mapEngine fun e => { e with state := .waiting }

/-- The end of an evaluation (R71), with the pieces of the provisional tail. -/
def endEvaluation (r : EvalRun) (pieces : List Resolved) (s : State) : State :=
  let f := finishChunks s r
  let start := s.engine.resolvedEnd
  let old := s.engine.tail
  let carry := carryAfter s.engine.carry f.added
  let stop := endAfter start f.added
  let tail := ((joinAll true carry stop pieces).map (·.text)).flatten
  let s := s.mapEngine fun e =>
    { e with
      run := none, chunks := f.chunks, window := r.work, heldMark := f.heldMark
      carry := carry, resolvedEnd := stop, tail := tail }
  let s := handEdits start old ((f.added.map (·.text)).flatten ++ tail) s
  let s := settleTest s
  let s := s.mapEngine fun e =>
    { e with
      cache := trimCache e.cache e.window
      forceOwed := e.forceOwed && (r.cut || f.heldMark.isSome)
      timerDue :=
        if e.window.isEmpty || s.params.resolvePause = 0 then none
        else some (s.now + s.params.resolvePause) }
  nextAfter f r.cut s

/-- The evaluation in flight goes on (R63): it waits for a lookup's READs, or ends. -/
def advanceEvaluation (r : EvalRun) (s : State) : State :=
  match evaluateOn s.dict s.engine.chunks.length ⟨r, s.engine.cache⟩ with
  | .waits c k =>
    requestTranslation (k.readOp s.dict)
      ((s.mapEngine fun e => { e with run := some c.run, cache := c.cache }).mapDict fun d =>
        { d with lookup := some k })
  | .done c pieces =>
    endEvaluation c.run pieces (s.mapEngine fun e => { e with run := some c.run, cache := c.cache })

/-- An evaluation in flight has no lookup outstanding: it goes on in this step. -/
def evaluationStep (s : State) : Option State :=
  match s.engine.run, s.dict.lookup with
  | some r, none => some (advanceEvaluation r s)
  | _, _ => none

/-! ## Lookup results (R46, R50) -/

/-- A lookup's result is handed to the engine (R46, R62). -/
def lookupArrived (codes : List Code) (r : LookupResult) (s : State) : State :=
  (s.mapDict fun d => { d with lookup := none }).mapEngine fun e =>
    match e.run with
    | none => e
    | some run =>
      let c := EvalContext.arrive ⟨run, e.cache⟩ codes r
      { e with run := some c.run, cache := c.cache }

/-- A lookup goes on with its layers, or has its result. -/
def lookupNext (codes : List Code) (n : LookupNext) (s : State) : State :=
  match n with
  | .done r => lookupArrived codes r s
  | .reads k => requestTranslation (k.readOp s.dict) (s.mapDict fun d => { d with lookup := some k })

/-- The walk of a layer has ended, and the layers after it are consulted (R47, R49). -/
def layerDone (k : Lookup) (r : LookupResult) (s : State) : State :=
  lookupNext k.sequence (consult s.dict k.sequence r k.later) s

/-- A READ of a walk has brought its bytes (R47, R50). -/
def walkRead (k : Lookup) (bytes : List Byte) (s : State) : State :=
  match walkStep (s.dict.layer k.layer) k.sequence k.stage bytes with
  | .goOn stage => lookupNext k.sequence (.reads { k with stage := stage }) s
  | .absent => layerDone k k.result s
  | .found flags text => layerDone k (k.result.matched flags text) s
  | .fault =>
    layerDone k { k.result with fault := true }
      (countMemoryFault (s.mapDict fun d => d.countLayerFault k.layer))

/-- A READ of a walk has timed out (R50): the port has counted it already. -/
def walkTimeout (k : Lookup) (s : State) : State :=
  layerDone k { k.result with fault := true } (s.mapDict fun d => d.countLayerFault k.layer)

/-! ## Corrections (R87 to R92) -/

/-- A correction whose target is the window's last stroke (R89). -/
def correctWindow (target : StrokeEntry) (s : State) : State :=
  beginEvaluation false
    (queueAmendment target.seq (s.mapEngine fun e => { e with window := e.window.dropLast }))

/-- A correction whose target is the last stroke of the last chunk (R90). -/
def reopenChunk (c : Chunk) (s : State) : State :=
  let s := s.mapEngine fun e => { e with chunks := e.chunks.dropLast }
  let s := if c.text.isEmpty then s else applyRetract c.start s
  let s := s.mapEngine fun e =>
    { e with carry := c.carryIn, resolvedEnd := c.start, window := c.strokes.dropLast }
  beginEvaluation false (queueAmendment c.lastSeq s)

/-- The reason of a refused correction (R92, R181). -/
def refusalReason : Option Chunk → Byte
  | none => 0x01
  | some c => if c.kind = .mark then 0x03 else 0x02

/-- A correction is taken (R88). -/
def takeCorrection (rec : RingRecord) (s : State) : State :=
  match s.engine.window.getLast?, s.engine.chunks.getLast? with
  | some w, _ => correctWindow w s
  | none, last =>
    match last.filter (fun c => c.isOpen && c.kind != .mark) with
    | some c => reopenChunk c s
    | none =>
      offerNotice noticeRefusal
        (be32 rec.seq ++ [if rec.body.kind = .strike then 0x02 else 0x01, refusalReason last]) s

/-! ## Taking records (R60, R61) -/

/-- A stroke is taken (R61). -/
def takeStroke (rec : RingRecord) (s : State) : State :=
  beginEvaluation false (s.mapEngine fun e =>
    { e with
      window := e.window ++ [⟨rec.seq, rec.body.value⟩]
      chunks := closeReached s.params.depth (countStroke e.chunks) })

/-- A MARK is taken (R76). -/
def takeMark (rec : RingRecord) (s : State) : State :=
  beginEvaluation true (s.mapEngine fun e => { e with heldMark := some ⟨rec.seq, rec.body.value.toNat⟩ })

/-- A record is taken and dealt with by its kind (R60). -/
def takeRecord (rec : RingRecord) (s : State) : State :=
  let s := (s.mapRing Ring.passTranslation).mapEngine fun e => { e with timerDue := none }
  match rec.body.kind with
  | .mark => takeMark rec s
  | .strike => takeCorrection rec s
  | .stroke => if rec.body.correction then takeCorrection rec s else takeStroke rec s

/-- The engine takes the record at the translation cursor (R60). -/
def takeStep (s : State) : Option State :=
  if s.engine.state = .waiting ∧ s.engine.window.length < Config.windowStrokes then
    (s.ring.recordAt s.ring.translationCursor).map fun rec => takeRecord rec s
  else none

/-- The engine finds the ring drained in a close (R83). -/
def drainStep (s : State) : Option State :=
  if s.engine.state = .waiting ∧ s.engine.closeMark ∧ s.ring.drainedTranslation then
    some (beginEvaluation true s)
  else none

/-! ## Redefinition (R95) -/

/-- An overlay change reaches the engine (R95, R62). -/
def overlayChanged (reach : Bool) (s : State) : State :=
  let s := s.mapEngine fun e => { e with cache := [] }
  match s.engine.state with
  | .waiting => beginEvaluation false (if reach then reachBack s else s)
  | .stalled =>
    let s := if reach then reachBack s else s
    beginEvaluation s.engine.forceOwed s
  | .evaluating =>
    s.mapEngine fun e => { e with reevaluationPending := true, reachBackPending := e.reachBackPending || reach }
  | .draining => s
  | .idle => s

/-! ## The correction depth (R74) and the timer (R81) -/

/-- A new D takes effect (R74): the chunks it closes are reported to the text stream. -/
def applyDepth (depth : Nat) (s : State) : State :=
  let closes := s.engine.chunks.any fun c => c.isOpen && depth ≤ c.afterCount
  let s := s.mapParams fun p => { p with depth := depth }
  let s := s.mapEngine fun e => { e with chunks := closeReached depth e.chunks }
  if closes then settleTest s else s

/-- The forced-resolution timer expires (R81). -/
def timerExpired (s : State) : State :=
  let s := s.mapEngine fun e => { e with timerDue := none }
  match s.engine.state with
  | .waiting => beginEvaluation true s
  | .stalled => s.mapEngine fun e => { e with forceOwed := true }
  | .evaluating => s
  | .draining => s
  | .idle => s

/-! ## Job boundaries (R82, R83, R85) -/

/-- The job open at the engine (R82). -/
def engineJobOpen (s : State) : State := s.mapEngine fun _ => { Engine.reset with state := .waiting }

/-- The job abort at the engine and at its lookup (R85, R51, R164): a lookup's READ in flight completes and
is dropped, and one not granted is withdrawn. DEDUCED (log 52): the resolved end becomes S, where the retained
text now ends, since R104's places tile the retained range between steps and R85 names no resolved end. -/
def engineJobAbort (s : State) : State :=
  let s := dropInFlight .translation (s.mapPort fun p => { p with translationRequest := none })
  let s := s.mapDict fun d => { d with lookup := none }
  s.mapEngine fun e =>
    { e with
      state := .idle, window := [], cache := [], chunks := [], tail := [], timerDue := none
      resolvedEnd := s.stream.settled, forceOwed := false, heldMark := none, closeMark := false
      reevaluationPending := false, reachBackPending := false, run := none }

end Sys2Proof.Machine
end

