-- ==== Sys2Proof/Machine/JobOps.lean ====
section
/-! DEFINITION. The job controller (chapter 10): opening, closing and aborting a job. -/

namespace Sys2Proof.Machine

/-! ## Opening (R151, R171, R172) -/

/-- The journal's answer to JOB_OPEN (R151). -/
inductive JournalAnswer
  | busy
  /-- Busy, and the journal runs a seek. -/
  | seeks
  | notReady (cause : JournalCause)
  | ready
deriving DecidableEq, Repr

/-- An accepted JOURNAL_ERASE whose scan has not begun yet. -/
def LinkItem.isErase : LinkItem → Bool
  | .journalErase _ _ _ => true
  | .settingsLoad _ => false
  | .layerSet _ _ _ _ _ => false
  | .validation _ => false
  | .imageRead _ _ _ => false
  | .imageWrite _ _ _ _ => false
  | .imageErase _ _ => false
  | .journalSeek _ _ _ _ _ _ _ => false
  | .journalRead _ _ _ => false
  | .nextSeek _ _ _ => false
  | .storeSettings _ _ _ _ => false

/-- What the journal answers (R151). A JOURNAL_ERASE that is not over counts as its scan. -/
def journalAnswer (s : State) : JournalAnswer :=
  let j := s.journal
  if j.scan.isSome || j.op == .seeking || s.port.items.any LinkItem.isErase then .busy
  else if j.memoryFailed then .notReady .failed
  else if j.needsSector && j.nextSector.isNone then
    if 0 < j.blankCount then .seeks else .notReady .exhausted
  else .ready

/-- The open at the journal controller (R151, R148): no cause is RUNNING. -/
def journalJobOpen (job : Nat) (cause : JournalCause) (s : State) : State :=
  let running := cause == .noCause
  let s := s.mapJournal fun j =>
    { j with
      jobNumber := job, durable := none, consecutiveFailures := 0, amendmentsDropped := 0
      amendments := [], unclosedJob := none, closePending := false, rewriteDue := none
      mode := if running then .running else .passing
      cause := cause, jobOpenDue := running }
  if running then s else raise .journalPassing s

/-- The fields of a JOB_OPEN reply (R172, R181). -/
def openFields (s : State) : List Byte :=
  [journalModeCode s.journal.mode, journalCauseCode s.journal.cause] ++
    allLayers.map fun i => boolCode (s.dict.layer i).valid

/-- The open takes effect at every block (R172 steps 1 to 3). -/
def openAllBlocks (o : OpenPending) (s : State) : State :=
  let s := s.mapJob fun j =>
    { j with
      number := o.jobNumber, translationDrained := false, discarded := 0, openPending := none
      state := .opened }
  let s := s.mapFormer fun f =>
    { f with
      jobClock := 0, audioCount := 0, audioSeen := false
      downTime := if f.state = .idle then f.downTime else 0
      audioDown := if f.state = .idle then f.audioDown else 0 }
  let s := s.mapRing fun _ => Ring.reset
  let s := engineJobOpen s
  let s := streamJobOpen (if o.answer = .noCause then .running else .passing) s
  journalJobOpen o.jobNumber o.answer (feedJobOpen s)

/-- The open takes effect (R172). -/
def openTakesEffect (s : State) : State :=
  match s.job.openPending with
  | none => s
  | some o =>
    let s := openAllBlocks o s
    reply kindJobOpen o.tag .ok (openFields s) s

/-! ## Closing (R173) -/

/-- A JOB_CLOSE is taken (R173). -/
def closeTaken (tag : Byte) (s : State) : State :=
  let s := s.mapJob fun j => { j with state := .closing, closePending := some tag, translationDrained := false }
  let s := s.mapEngine fun e => { e with closeMark := true }
  s.mapJournal fun j => { j with closePending := true }

/-! ## Aborting (R175) -/

/-- A JOB_ABORT is taken (R175). -/
def abortTaken (tag : Byte) (s : State) : State :=
  let abandoned := s.ring.unjournaled
  let s := s.mapRing Ring.abort
  let s := journalAbort (streamJobAbort (engineJobAbort s))
  let s := match s.job.closePending with
    | some t => reply kindJobClose t .state [] s
    | none => s
  s.mapJob fun j =>
    { j with closePending := none, state := .noJob, abortPending := some ⟨tag, abandoned⟩ }

/-- The journal reports its abort work done, and the JOB_ABORT is answered (R175). -/
def abortStep (s : State) : Option State :=
  match s.job.abortPending with
  | none => none
  | some a =>
    if s.journal.aborting then none
    else
      some (reply kindJobAbort a.tag .ok (be32 a.abandoned) (s.mapJob fun j => { j with abortPending := none }))

end Sys2Proof.Machine
end

