-- ==== Sys2Proof/Machine/KeysOps.lean ====
section
/-! DEFINITION. Key sensing and stroke formation (chapter 1). -/

namespace Sys2Proof.Machine

/-! ## One channel at an evaluation (R4 to R6) -/

/-- The reading a level gives, the first line of R4 that applies. -/
def classify (upLevel : Nat) (c : Channel) (level : Byte) : Reading :=
  let n := level.toNat
  if n < 8 then .openCircuit
  else if 247 < n then .shortCircuit
  else if c.downLevel ≤ n then .down
  else if n ≤ upLevel then .up
  else match c.reading with
    | .up => .up
    | .down => .down
    | .openCircuit => .up
    | .shortCircuit => .up

/-- The channel with its level, reading and qualification timers brought up to date (R4, R5): the dwell
here counts this evaluation too, as R6 reads it. -/
def Channel.qualify (c : Channel) (upLevel : Nat) (level : Byte) : Channel :=
  let r := classify upLevel c level
  { c with
    lastLevel := level
    reading := r
    runLength := if r = c.reading then min (c.runLength + 1) 65535 else 1
    dwell := min (c.dwell + 1) 65535 }

/-- A reading has held for the debounce time (R5). -/
def Channel.held (c : Channel) (debounce : Nat) (r : Reading) : Bool :=
  c.reading == r && debounce ≤ c.runLength

/-- The new state and the latch it sets, by the first line of R6 that applies; none leaves the state
unchanged. -/
def Channel.decide (c : Channel) (debounce stuckLimit : Nat) : Option (ChannelState × Option KeyFault) :=
  let open? := c.held debounce .openCircuit
  let short? := c.held debounce .shortCircuit
  let up? := c.held debounce .up
  let down? := c.held debounce .down
  match c.state with
  | .disabled => none
  | .up =>
    if open? then some (.openCircuit, some .openCircuit)
    else if short? then some (.shortCircuit, some .shortCircuit)
    else if down? then some (.down, none) else none
  | .down =>
    if open? then some (.openCircuit, some .openCircuit)
    else if short? then some (.shortCircuit, some .shortCircuit)
    else if up? then some (.up, none)
    else if stuckLimit ≤ c.dwell then some (.stuck, some .stuck) else none
  | .stuck =>
    if open? then some (.openCircuit, some .openCircuit)
    else if short? then some (.shortCircuit, some .shortCircuit)
    else if up? then some (.up, none) else none
  | .openCircuit =>
    if short? then some (.shortCircuit, some .shortCircuit)
    else if c.latch = .noFault ∧ up? then some (.up, none)
    else if c.latch = .noFault ∧ down? then some (.down, none) else none
  | .shortCircuit =>
    if open? then some (.openCircuit, some .openCircuit)
    else if c.latch = .noFault ∧ up? then some (.up, none)
    else if c.latch = .noFault ∧ down? then some (.down, none) else none

/-- The channel after a decision: a change of state makes the dwell 0 (R5). -/
def Channel.become (c : Channel) : Option (ChannelState × Option KeyFault) → Channel
  | none => c
  | some (state, latch) => { c with state := state, dwell := 0, latch := latch.getD c.latch }

/-- What R6 decides for a channel at an evaluation with this level. -/
def channelDecision (p : Params) (c : Channel) (level : Byte) : Option (ChannelState × Option KeyFault) :=
  (c.qualify p.upLevel level).decide p.debounce p.stuckLimit

/-- The channel after an evaluation with this level. -/
def evaluateChannel (p : Params) (c : Channel) (level : Byte) : Channel :=
  (c.qualify p.upLevel level).become (channelDecision p c level)

/-! ## The stroke former (R13 to R19) -/

/-- A channel is excluded (R1). -/
def ChannelState.excluded : ChannelState → Bool
  | .up => false | .down => false
  | .stuck => true | .openCircuit => true | .shortCircuit => true | .disabled => true

/-- The set of channels DOWN in an evaluation result (R13). -/
def downSet (result : List ChannelState) : Code :=
  (List.range 23).foldl
    (fun set i => if result.getD i .up = .down then set ||| (1#23 <<< i) else set) 0

/-- Held down: the channels DOWN in a result; went down: those that were not DOWN before (R13). -/
def wentDown (before after : List ChannelState) : Code := downSet after &&& ~~~downSet before

/-- The stroke record closed from the chord set (R17, R18, R19). -/
def StrokeFormer.closedStroke (f : StrokeFormer) : RecordBody where
  kind := .stroke
  value := f.chord
  correction := f.chord == 0x400#23
  degraded := f.result.any ChannelState.excluded
  downTime := f.downTime
  closeTime := f.jobClock
  audio := if f.audioSeen then some (f.audioDown, f.audioCount) else none

/-- The stroke former after the stroke has closed (R16). -/
def StrokeFormer.rest (f : StrokeFormer) : StrokeFormer :=
  { f with state := .idle, chord := 0, guardDue := none }

/-- A STROKE notice's payload (R20, R182). -/
def strokeNotice (b : RecordBody) : List Byte :=
  be24 b.value.toNat ++ [recordFlags b.correction b.degraded false b.audio.isSome] ++
    beWord b.downTime ++ beWord b.closeTime ++ audioBytes b.audio

/-- Where a closed stroke goes (R20). -/
def dispose (b : RecordBody) (s : State) : State :=
  match s.job.state with
  | .opened => arrive b s
  | .noJob => if s.params.strokeCopy then offerNotice noticeStroke (strokeNotice b) s else s
  | .closing => s.mapJob fun j => { j with discarded := satIncr max32 j.discarded }
  | .booting => s

/-- The stroke closes from the chord set and the stroke former becomes IDLE (R16, R18, R20). -/
def closeStroke (s : State) : State :=
  dispose s.former.closedStroke (s.mapFormer StrokeFormer.rest)

/-- The stroke former takes an evaluation result (R13 to R16), without the close of a guard of 0 ms. -/
def StrokeFormer.takeResult (f : StrokeFormer) (result : List ChannelState) (guard now : Nat) : StrokeFormer :=
  let went := wentDown f.result result
  let f := { f with result := result }
  match f.state with
  | .idle =>
    if went = 0 then f
    else { f with state := .chord, chord := went, downTime := f.jobClock, audioDown := f.audioCount }
  | .chord =>
    let f := { f with chord := f.chord ||| went }
    if downSet result = 0 then { f with state := .releasing, guardDue := some (now + guard) } else f
  | .releasing =>
    if went = 0 then f else { f with state := .chord, chord := f.chord ||| went, guardDue := none }

/-- The evaluation result handed to the stroke former; a guard period of 0 ms expires within the same
event (R15). -/
def handResult (s : State) : State :=
  let s1 := s.mapFormer fun f =>
    f.takeResult (s.keys.channels.map (·.state)) s.params.releaseGuard s.now
  if s.former.state = .chord ∧ s1.former.state = .releasing ∧ s.params.releaseGuard = 0 then closeStroke s1
  else s1

/-! ## The evaluation (R4) -/

/-- The evaluation of all 23 channels (R4 to R9): a latch that is set raises KEY_FAULT. -/
def evaluateKeys (levels : Levels) (s : State) : State :=
  let latched := (s.keys.channels.zip levels.toList).any fun cl =>
    match channelDecision s.params cl.1 cl.2 with
    | some (_, some _) => true
    | _ => false
  let s1 := s.mapKeys fun k =>
    { k with channels := k.channels.zipWith (evaluateChannel s.params) levels.toList }
  if latched then raise .keyFault s1 else s1

/-- Key sensing has begun: the settings load of start-up is over (R1, R189). -/
def BootStep.sensing : BootStep → Bool
  | .readyWait => false | .settingsLoad => false | .recoveryScan => true | .done => true

/-- The whole 1 ms event: the evaluation, then its hand-off (R4, R13). -/
def evaluation (levels : Levels) (s : State) : State :=
  if s.boot.sensing then handResult (evaluateKeys levels s) else s

/-! ## Channel requests (R3, R10, R11) -/

/-- The down level stored for a requested one (R3). -/
def appliedDownLevel (upLevel requested : Nat) : Nat := max (clamp 8 247 requested) (upLevel + 16)

/-- A channel after CHANNEL_SET (R11). -/
def Channel.set (c : Channel) (enable : Bool) (downLevel : Nat) : Channel :=
  let c1 := { c with enable := enable, downLevel := downLevel }
  match c.enable, enable with
  | true, true => c1
  | true, false => { c1 with state := .disabled, dwell := 0 }
  | false, true => { c1 with state := .up, runLength := 0, dwell := 0 }
  | false, false => c1

/-- A channel's latch after FAULT_CLEAR named it (R10). -/
def Channel.clearedLatch (c : Channel) : KeyFault :=
  if c.state = .disabled then .noFault
  else if c.state = .stuck then .stuck
  else match c.reading with
    | .openCircuit => .openCircuit
    | .shortCircuit => .shortCircuit
    | .up => .noFault
    | .down => .noFault

/-- FAULT_CLEAR at the channels of a set (R10). -/
def clearKeyLatches (set : Nat) (s : State) : State :=
  let named := s.keys.channels.zipIdx.map fun ci => (ci.1, set.testBit ci.2)
  let relatched := named.any fun cn => cn.2 && cn.1.clearedLatch != .noFault
  let s1 := s.mapKeys fun k =>
    { k with channels := named.map fun cn => if cn.2 then { cn.1 with latch := cn.1.clearedLatch } else cn.1 }
  if relatched then raise .keyFault s1 else s1

end Sys2Proof.Machine
end

