-- ==== Sys2Proof/Machine/Settings.lean ====
section
/-! DEFINITION. The settings record (section 11.7): its building, and the settings load of start-up. -/

namespace Sys2Proof.Machine

/-! ## Checks shared with requests -/

/-- The value check of a journal region (R136). -/
def journalRegionOk (base count : Nat) : Bool := 1 ≤ base && 8 ≤ count && count ≤ 1024 && base + count ≤ 4096

/-- The value check of a layer's region (R40): a sector count above 0 within the memory. -/
def layerRegionOk (base count : Nat) : Bool := count == 0 || base + count ≤ 4096

/-- The protection check of a layer's region (R40): neither sector 0 nor a sector of the journal region. -/
def layerRegionFree (p : Params) (base count : Nat) : Bool :=
  !(inRegion base count 0) && !(regionsMeet base count p.journalBase p.journalCount)

/-- The resolve pause applied for a value given (R79). -/
def appliedPause (n : Nat) : Nat := if n = 0 then 0 else clamp 100 10000 n

/-- The trigger levels (R183). -/
def triggerLevel (n : Nat) : Bool := n == 1 || n == 4 || n == 8 || n == 16

/-! ## The record (section 11.7) -/

/-- Bytes of the settings record. -/
def settingsBytes : Nat := 681

/-- The content bytes that the length field counts. -/
def settingsContent : Nat := 674

/-- Where the three parts of the settings record lie, and their lengths. -/
def settingsPlace (k : Nat) : Nat × Nat := if k = 0 then (0, 256) else if k = 1 then (256, 256) else (512, 169)

/-- The parameters part. -/
def paramsPart (p : Params) : List Byte :=
  be8 p.upLevel ++ be8 p.debounce ++ be16 p.stuckLimit ++ be8 p.releaseGuard ++ [boolCode p.strokeCopy] ++
    be8 p.depth ++ be16 p.resolvePause ++ be8 p.trigger ++ be8 p.gather ++ be16 p.journalBase ++
    be16 p.journalCount ++ be8 p.lowThreshold ++ [p.reportMask]

/-- A profile's fields, as PORT_QUERY returns them too (R181). -/
def profilePart (p : Profile) : List Byte :=
  [modeCode p.mode] ++ be16 p.rate ++ be8 p.burst ++ [boolCode p.hold] ++ be16 p.refreshDepth

/-- The line speed byte of a port: port 0 has no line speed (log 8). -/
def speedByte (i : PortId) (p : Port) : Byte := if i = .p0 then Config.portZeroSpeed else speedCode p.speed

/-- A port's stored fields. -/
def portPart (i : PortId) (p : Port) : List Byte := [boolCode p.enable, profileCode p.profile, speedByte i p]

/-- A layer's stored fields. -/
def layerPart (l : Layer) : List Byte := be16 l.base ++ be16 l.count ++ [boolCode l.enable]

/-- A mark table entry: set, flags, text length, 32 text bytes. -/
def markPart : Option MarkEntry → List Byte
  | none => [0#8, 0#8, 0#8] ++ List.replicate 32 Config.settingsFill
  | some m =>
    [1#8, m.flags] ++ be8 m.text.length ++ m.text ++ List.replicate (32 - m.text.length) Config.settingsFill

/-- The settings record as the part stands (R188). -/
def settingsRecord (s : State) : List Byte :=
  let body := [0x01#8] ++ be16 settingsContent ++ paramsPart s.params ++
    s.keys.channels.flatMap (fun c => [boolCode c.enable] ++ be8 c.downLevel) ++
    profilePart s.feeds.profileA ++ profilePart s.feeds.profileB ++ profilePart s.feeds.profileC ++
    allPorts.flatMap (fun i => portPart i (s.feeds.port i)) ++
    allLayers.flatMap (fun i => layerPart (s.dict.layer i)) ++
    s.params.marks.flatMap markPart
  [0x5A#8, 0xC3#8] ++ body ++ crcBytes body

/-- A record read is valid (R189). -/
def settingsValid (bytes : List Byte) : Bool :=
  byteAt bytes 0 == 0x5A && byteAt bytes 1 == 0xC3 && byteAt bytes 2 == 0x01 &&
    fieldAt bytes 3 2 == settingsContent && crcBytes ((bytes.drop 2).take 677) == (bytes.drop 679).take 2

/-! ## Its items (R189): out of range is clamped, or takes the item's default -/

/-- The journal region applied: the default region where the stored one fails a value check of R136 (R189).
DESIGN CHOICE (log 53): a sector count out of range fails that check, and is not clamped first. -/
def loadedRegion (base count : Nat) : Nat × Nat :=
  if journalRegionOk base count then (base, count) else (3072, 1024)

/-- A mark table entry's 35 bytes. -/
def loadedMark (b : List Byte) : Option MarkEntry :=
  let text := (b.drop 3).take (min (byteAt b 2).toNat 32)
  if byteAt b 0 = 1 ∧ markFlagsValid (byteAt b 1) ∧ text.all textByte then some ⟨byteAt b 1, text⟩ else none

/-- The parameter store from the content bytes. -/
def loadedParams (c : List Byte) : Params :=
  let region := loadedRegion (fieldAt c 11 2) (fieldAt c 13 2)
  { upLevel := clamp 8 231 (byteAt c 0).toNat
    debounce := clamp 1 15 (byteAt c 1).toNat
    stuckLimit := clamp 250 5000 (fieldAt c 2 2)
    releaseGuard := clamp 0 40 (byteAt c 4).toNat
    strokeCopy := (boolOf (byteAt c 5)).getD false
    depth := clamp 0 16 (byteAt c 6).toNat
    resolvePause := appliedPause (fieldAt c 7 2)
    trigger := if triggerLevel (byteAt c 9).toNat then (byteAt c 9).toNat else 4
    gather := clamp 1 100 (byteAt c 10).toNat
    journalBase := region.1
    journalCount := region.2
    lowThreshold := clamp 1 64 (byteAt c 15).toNat
    marks := (List.range 16).map fun m => loadedMark ((c.drop (114 + 35 * m)).take 35)
    reportMask := if hasFlag (byteAt c 16) 0x80 then 0 else byteAt c 16 }

/-- A channel record from its 2 bytes (R1, R3). -/
def loadedChannel (upLevel : Nat) (enable down : Byte) : Channel :=
  let on := (boolOf enable).getD true
  { Channel.reset with
    enable := on, downLevel := appliedDownLevel upLevel down.toNat
    state := if on then .up else .disabled }

/-- The channel table from the content bytes. -/
def loadedKeys (upLevel : Nat) (c : List Byte) : Keys :=
  ⟨(List.range 23).map fun i => loadedChannel upLevel (byteAt c (17 + 2 * i)) (byteAt c (18 + 2 * i))⟩

/-- A profile record from its 7 bytes (R116). -/
def loadedProfile (default : Profile) (b : List Byte) : Profile where
  mode := (modeOf (byteAt b 0)).getD default.mode
  rate := clamp 10 960 (fieldAt b 1 2)
  burst := clamp 1 64 (byteAt b 3).toNat
  hold := (boolOf (byteAt b 4)).getD default.hold
  refreshDepth := clamp 0 2048 (fieldAt b 5 2)

/-- A port record from its 3 bytes (R115). -/
def loadedPort (default : ProfileId) (b : List Byte) : Port :=
  { Port.reset default with
    enable := (boolOf (byteAt b 0)).getD true
    profile := (profileOf (byteAt b 1)).getD default
    speed := (speedOf (byteAt b 2)).getD .s38400 }

/-- The feed unit from the content bytes. -/
def loadedFeeds (c : List Byte) : Feeds where
  profileA := loadedProfile .defaultA (c.drop 63)
  profileB := loadedProfile .defaultB (c.drop 70)
  profileC := loadedProfile .defaultC (c.drop 77)
  port0 := loadedPort .c (c.drop 84)
  port1 := loadedPort .a (c.drop 87)
  port2 := loadedPort .a (c.drop 90)
  port3 := loadedPort .a (c.drop 93)
  port4 := loadedPort .a (c.drop 96)

/-- A layer record from its 5 bytes, checked against the journal region applied (R189, R35). DESIGN CHOICE
(log 53): its sector count is checked as stored, and not clamped first. -/
def loadedLayer (p : Params) (b : List Byte) : Layer :=
  let base := fieldAt b 0 2
  let count := fieldAt b 2 2
  let on := (boolOf (byteAt b 4)).getD false
  if layerRegionOk base count && layerRegionFree p base count && !(count == 0 && on) then
    { Layer.reset with base := base, count := count, enable := on, checkPending := on && 0 < count }
  else Layer.reset

/-- A valid record is applied (R189). -/
def applySettings (bytes : List Byte) (s : State) : State :=
  let c := (bytes.drop 5).take settingsContent
  let p := loadedParams c
  { s with
    params := p
    keys := loadedKeys p.upLevel c
    feeds := loadedFeeds c
    dict := { s.dict with
      layer1 := loadedLayer p (c.drop 99), layer2 := loadedLayer p (c.drop 104)
      layer3 := loadedLayer p (c.drop 109) }
    link := { s.link with defaultsInUse := false } }

/-- The settings load ends (R189): a valid record is applied, with ATTN tested for the trigger level and the
gather time it brings (R183), key sensing begins, the ports take their states, and the recovery scan begins.
DESIGN CHOICE (log 57): the low threshold it brings is not tested against the BLANK count of 0 that stands before
the scan (R147); the scan's end tests it. none is a record of which a READ timed out. -/
def settingsLoaded (record : Option (List Byte)) (s : State) : State :=
  let s := match record with
    | some bytes => if settingsValid bytes then testAttn (applySettings bytes s) else s
    | none => s
  startUpScan (portsTakeStates (s.setBoot .recoveryScan))

end Sys2Proof.Machine
end

