-- ==== Sys2Proof/Machine/LinkItems.lean ====
section
/-! DEFINITION. The items of the link-side queue (R163): what each does when it reaches the head, and with
the outcome of each of its operations. -/

namespace Sys2Proof.Machine

/-! ## Settings load (R189) -/

/-- The READ that follows the READs ended so far. -/
def settingsReadOp (ended : Nat) : MemOp := .read (settingsPlace ended).1 (settingsPlace ended).2

/-- The bytes of an operation's success; none is a timeout. -/
def OpOutcome.bytes? : OpOutcome → Option (List Byte)
  | .success bytes => some bytes
  | .timeout => none

/-- The parts joined; none when one of them timed out. -/
def joinParts : List (Option (List Byte)) → Option (List Byte)
  | [] => some []
  | none :: _ => none
  | some bytes :: rest => (joinParts rest).map (bytes ++ ·)

/-- The outcome of a READ of the settings load: each of the three READs is tried, whatever became of those
before it (R168, R189). -/
def settingsLoadOutcome (parts : List (Option (List Byte))) (o : OpOutcome) (s : State) : State :=
  let parts := parts ++ [o.bytes?]
  if parts.length < 3 then requestLink (settingsReadOp parts.length) (setHead (.settingsLoad parts) s)
  else settingsLoaded (joinParts parts) (popItem s)

/-! ## LAYER_SET (R40, R41) -/

/-- The fields of an OK reply that enabled a layer (R181). -/
def layerFields (l : Layer) : List Byte := be8 l.bucketBits ++ be32 l.entryCount ++ be32 l.imageLength

/-- A layer's record when a LAYER_SET that disables it completes (R40). -/
def Layer.disabled (base count : Nat) : Layer :=
  { Layer.reset with base := base, count := count, checkPending := 0 < count }

/-- A LAYER_SET that disables is completed at the head (R40). -/
def layerDisable (tag : Byte) (i : LayerId) (base count : Nat) (s : State) : State :=
  reply kindLayerSet tag .ok [] (popItem (s.mapDict fun d => d.setLayer i (.disabled base count)))

/-- A layer's record when the header read of an enabling LAYER_SET ends (R41): none is a timeout. -/
def Layer.setFrom (l : Layer) (base count : Nat) (header : Option (List Byte)) : Layer :=
  { l with base := base, count := count, enable := true, faultCount := 0 : Layer }.afterHeader header

/-- The header read of an enabling LAYER_SET ends (R41). -/
def layerSetOutcome (tag : Byte) (i : LayerId) (base count : Nat) (o : OpOutcome) (s : State) : State :=
  let l := (s.dict.layer i).setFrom base count o.bytes?
  let s := popItem (s.mapDict fun d => d.setLayer i l)
  match o with
  | .timeout => reply kindLayerSet tag .memoryFault [] s
  | .success _ =>
    if l.valid then reply kindLayerSet tag .ok (layerFields l) s else reply kindLayerSet tag .badImage [] s

/-! ## Layer validation (R42) -/

/-- The layers the validation takes when it begins. -/
def pendingLayers (d : Dict) : List LayerId :=
  allLayers.filter fun i => (d.layer i).enable && (d.layer i).checkPending

/-- The validation reads its next header, or ends and the open takes effect (R42, R172). -/
def validateNext (layers : List LayerId) (s : State) : State :=
  match layers with
  | [] => openTakesEffect (popItem s)
  | i :: _ =>
    requestLink (.read ((s.dict.layer i).base * Config.sectorBytes) 16) (setHead (.validation layers) s)

/-- A header read of the validation ends (R42). -/
def validationOutcome (layers : List LayerId) (o : OpOutcome) (s : State) : State :=
  match layers with
  | [] => s
  | i :: rest =>
    validateNext rest (s.mapDict fun d => d.setLayer i ((d.layer i).afterHeader o.bytes?))

/-! ## Image requests (R165 to R167, R43) -/

/-- A layer whose region holds one of the bytes is marked INVALID with its check pending (R43). -/
def Dict.invalidateSector (d : Dict) (sector : Nat) : Dict :=
  let mark (l : Layer) : Layer := if inRegion l.base l.count sector then l.invalidate else l
  { d with layer1 := mark d.layer1, layer2 := mark d.layer2, layer3 := mark d.layer3 }

/-- The outcome of an IMAGE_READ (R165). -/
def imageReadOutcome (tag : Byte) (o : OpOutcome) (s : State) : State :=
  match o with
  | .success bytes => reply kindImageRead tag .ok bytes (popItem s)
  | .timeout => reply kindImageRead tag .memoryFault [] (popItem s)

/-- An IMAGE_WRITE at the head: the layers touched are marked, then the PROGRAM (R166). -/
def beginImageWrite (addr : Nat) (bytes : List Byte) (s : State) : State :=
  requestLink (.program addr bytes) (s.mapDict fun d => d.invalidateSector (addr / Config.sectorBytes))

/-- The offset of the first byte read that differs from the byte requested. -/
def firstDifference (wanted got : List Byte) : Option Nat :=
  (List.range wanted.length).find? fun i => byteAt wanted i != byteAt got i

/-- The outcome of an operation of an IMAGE_WRITE (R166). -/
def imageWriteOutcome (tag : Byte) (addr : Nat) (bytes : List Byte) (reading : Bool) (o : OpOutcome)
    (s : State) : State :=
  match o, reading with
  | .timeout, _ => reply kindImageWrite tag .memoryFault [] (popItem s)
  | .success _, false =>
    requestLink (.read addr bytes.length) (setHead (.imageWrite tag addr bytes true) s)
  | .success got, true =>
    match firstDifference bytes got with
    | none => reply kindImageWrite tag .ok [] (popItem s)
    | some k => reply kindImageWrite tag .verifyFail (be8 k) (popItem s)

/-- An IMAGE_ERASE at the head (R167). -/
def beginImageErase (sector : Nat) (s : State) : State :=
  requestLink (.erase sector) (s.mapDict fun d => d.invalidateSector sector)

/-- The outcome of an IMAGE_ERASE (R167). -/
def imageEraseOutcome (tag : Byte) (o : OpOutcome) (s : State) : State :=
  match o with
  | .success _ => reply kindImageErase tag .ok [] (popItem s)
  | .timeout => reply kindImageErase tag .memoryFault [] (popItem s)

/-! ## JOURNAL_SEEK (R154) -/

/-- A sector and slot as replies carry them: the sector's number in the memory. -/
def placeFields (s : State) (sector slot : Nat) : List Byte := be16 (s.params.journalBase + sector) ++ be8 slot

/-- A seek that finds nothing leaves the cursor as it was. -/
def seekMissed (tag : Byte) (code : ReplyCode) (s : State) : State := reply kindJournalSeek tag code [] (popItem s)

/-- The record is found: the export cursor is placed at it. -/
def seekFound (tag : Byte) (sector slot : Nat) (s : State) : State :=
  let s := popItem (s.mapJournal fun j => { j with cursorSector := sector, cursorSlot := slot })
  reply kindJournalSeek tag .ok (placeFields s sector slot) s

/-- The header of the next sector is read, or the sectors have run out. -/
def seekSector (tag : Byte) (job seq : Nat) (sectors : List Nat) (s : State) : State :=
  match sectors with
  | [] => seekMissed tag .notFound s
  | c :: rest =>
    requestLink (.read (slotAddr s c 0) 32) (setHead (.journalSeek tag job seq c 0 false rest) s)

/-- The seek goes on downward: to the slot given, or past slot 1 to the sector's end. -/
def seekSlot (tag : Byte) (job seq sector slot : Nat) (headerNames : Bool) (later : List Nat) (s : State) :
    State :=
  if 1 ≤ slot then
    requestLink (.read (slotAddr s sector slot) 10)
      (setHead (.journalSeek tag job seq sector slot headerNames later) s)
  else if headerNames then seekMissed tag .notFound s
  else seekSector tag job seq later s

/-- The seek takes a sector's header. -/
def seekHeader (tag : Byte) (job seq sector : Nat) (later : List Nat) (bytes : List Byte) (s : State) :
    State :=
  let names := fieldAt bytes 8 2 == job
  let first := fieldAt bytes 10 4
  if names && seq < first then seekSector tag job seq later s
  else seekSlot tag job seq sector 127 (names && first ≤ seq) later s

/-- The seek takes a slot's bytes 0 to 9. -/
def seekRecord (tag : Byte) (job seq sector slot : Nat) (headerNames : Bool) (later : List Nat)
    (bytes : List Byte) (s : State) : State :=
  let status := byteAt bytes 0
  let ofJob := fieldAt bytes 8 2 == job
  let recSeq := fieldAt bytes 4 4
  if status = statusBlank ∨ status = statusVoid then seekSlot tag job seq sector (slot - 1) headerNames later s
  else if ofJob ∧ recSeq = seq ∧ (status = statusCommitted ∨ status = statusCorrected) then
    seekFound tag sector slot s
  else if ofJob ∧ (recSeq < seq ∨ byteAt bytes 1 = JournalKind.jobOpen.byte) then seekMissed tag .notFound s
  else seekSlot tag job seq sector (slot - 1) headerNames later s

/-- The outcome of a READ of a JOURNAL_SEEK (R154). -/
def journalSeekOutcome (tag : Byte) (job seq sector slot : Nat) (headerNames : Bool) (later : List Nat)
    (o : OpOutcome) (s : State) : State :=
  match o with
  | .timeout => seekMissed tag .memoryFault s
  | .success bytes =>
    if slot = 0 then seekHeader tag job seq sector later bytes s
    else seekRecord tag job seq sector slot headerNames later bytes s

/-! ## JOURNAL_READ (R155) -/

/-- The sector whose header is being written holds no record yet. -/
def Journal.openingSector (j : Journal) : Bool :=
  match j.op with
  | .header _ _ _ => true
  | .voidHeader _ _ => true
  | .waiting => false
  | .record _ _ => false
  | .voidRecord _ _ => false
  | .retire _ _ => false
  | .locate _ _ _ _ => false
  | .correct _ _ _ => false
  | .seeking => false
  | .abortVoid => false

/-- The slot of the current sector at which an export stops. -/
def Journal.exportLimit (j : Journal) : Nat := if j.openingSector then 1 else j.appendPoint

/-- The sector of the next higher serial after a sector; for a sector without a serial, the sector of the
lowest. -/
def Journal.nextExport (j : Journal) (sector : Nat) : Option Nat :=
  match (j.row sector).serial with
  | some n => ((j.bySerial.filter fun x => n < x.2).getLast?).map (·.1)
  | none => (j.bySerial.getLast?).map (·.1)

/-- The export cursor stands at the append point of the current sector. -/
def Journal.atAppendPoint (j : Journal) : Bool :=
  j.current == some j.cursorSector && j.exportLimit ≤ j.cursorSlot

/-- The export cursor moved on from slot 127's end, or off a sector without a serial, when there is a
sector to move to. DESIGN CHOICE (log 56): past slot 127 of a full current sector the cursor is at the append
point, and it stays there though a RETIRED sector has a higher serial. -/
def Journal.moveCursor (j : Journal) : Journal :=
  if j.atAppendPoint ∨ (j.cursorSlot < sectorSlots ∧ (j.row j.cursorSector).serial.isSome) then j
  else
    match j.nextExport j.cursorSector with
    | some c => { j with cursorSector := c, cursorSlot := 1 }
    | none => j

/-- The export can read no slot at its cursor: the append point, or no sector to go on in. -/
def Journal.exportStops (j : Journal) : Bool :=
  j.atAppendPoint || sectorSlots ≤ j.cursorSlot || (j.row j.cursorSector).serial.isNone

/-- The reply to a JOURNAL_READ (R155). -/
def exportReply (tag : Byte) (code : ReplyCode) (got : List (List Byte)) (s : State) : State :=
  let s := popItem s
  reply kindJournalRead tag code
    (placeFields s s.journal.cursorSector s.journal.cursorSlot ++ be8 got.length ++ got.flatten) s

/-- The export moves its cursor on past slot 127, then reads the slot it stands on, or stops: the cursor
rests on the first slot not returned (R155, log 10). -/
def exportNext (tag : Byte) (wanted : Nat) (got : List (List Byte)) (s : State) : State :=
  let s := s.mapJournal Journal.moveCursor
  if wanted ≤ got.length ∨ s.journal.exportStops then exportReply tag .ok got s
  else
    requestLink (.read (slotAddr s s.journal.cursorSector s.journal.cursorSlot) 32)
      (setHead (.journalRead tag wanted got) s)

/-- The outcome of a READ of a JOURNAL_READ (R155). -/
def journalReadOutcome (tag : Byte) (wanted : Nat) (got : List (List Byte)) (o : OpOutcome) (s : State) :
    State :=
  match o with
  | .timeout => exportReply tag .memoryFault got s
  | .success bytes =>
    let status := byteAt bytes 0
    let got := if status = statusCommitted ∨ status = statusCorrected then got ++ [bytes] else got
    exportNext tag wanted got (s.mapJournal fun j => { j with cursorSlot := j.cursorSlot + 1 })

/-! ## JOURNAL_ERASE (R156) -/

/-- The next sector is erased; after the last, the recovery scan begins (R156). -/
def eraseNext (tag : Byte) (todo : List Nat) (erased : Nat) (s : State) : State :=
  match todo with
  | [] => beginScan [.erase tag erased] (popItem s)
  | c :: _ => requestLink (.erase c) (setHead (.journalErase tag todo erased) s)

/-- The outcome of an ERASE of a JOURNAL_ERASE: one that times out is not counted (R156). -/
def journalEraseOutcome (tag : Byte) (todo : List Nat) (erased : Nat) (o : OpOutcome) (s : State) : State :=
  match o with
  | .success _ => eraseNext tag (todo.drop 1) (erased + 1) s
  | .timeout => eraseNext tag (todo.drop 1) erased s

/-! ## Next-sector seek (R145) -/

/-- The seek reads its next candidate, or ends with none. -/
def seekCandidate (candidates : List Nat) (final : Bool) (s : State) : State :=
  match candidates with
  | [] => seekEnded none final (popItem s)
  | c :: _ =>
    requestLink (.read (slotAddr s c 0) 32) (setHead (.nextSeek candidates none final) s)

/-- A candidate that is not blank is RETIRED (R145). -/
def retireCandidate (c : Nat) (s : State) : State :=
  testJournalLow (s.mapJournal fun j => { j.setClass c .retired with blankCount := j.blankCount - 1 })

/-- The outcome of a READ of a next-sector seek (R145). -/
def nextSeekOutcome (candidates : List Nat) (slot0Blank : Option Bool) (final : Bool) (o : OpOutcome)
    (s : State) : State :=
  match candidates, o, slot0Blank with
  | [], _, _ => s
  | _ :: rest, .timeout, _ => seekCandidate rest final s
  | c :: rest, .success bytes, none =>
    requestLink (.read (slotAddr s c 1) 32)
      (setHead (.nextSeek (c :: rest) (some (allBlank bytes)) final) s)
  | c :: rest, .success bytes, some blank =>
    if blank && allBlank bytes then seekEnded (some c) final (popItem s)
    else seekCandidate rest final (retireCandidate c s)

/-! ## STORE_SETTINGS (R188) -/

/-- The bytes of one part of the record. -/
def settingsPart (record : List Byte) (k : Nat) : List Byte :=
  (record.drop (settingsPlace k).1).take (settingsPlace k).2

/-- The seven operations of a STORE_SETTINGS, by how many have ended. -/
def storeOp (record : List Byte) (done : Nat) : MemOp :=
  if done = 0 then .erase 0
  else if done < 4 then .program (settingsPlace (done - 1)).1 (settingsPart record (done - 1))
  else .read (settingsPlace (done - 4)).1 (settingsPlace (done - 4)).2

/-- The outcome of an operation of a STORE_SETTINGS (R188). -/
def storeOutcome (tag : Byte) (record : List Byte) (done : Nat) (same : Bool) (o : OpOutcome) (s : State) :
    State :=
  match o with
  | .timeout => reply kindStoreSettings tag .memoryFault [] (popItem s)
  | .success bytes =>
    let same := same && (done < 4 || bytes == settingsPart record (done - 4))
    if done < 6 then
      requestLink (storeOp record (done + 1)) (setHead (.storeSettings tag record (done + 1) same) s)
    else if same then
      reply kindStoreSettings tag .ok [] ((popItem s).mapLink fun l => { l with defaultsInUse := false })
    else reply kindStoreSettings tag .verifyFail [] (popItem s)

/-! ## All items -/

/-- An item's first work when it reaches the head of the queue. -/
def beginItem (i : LinkItem) (s : State) : State :=
  match i with
  | .settingsLoad parts => requestLink (settingsReadOp parts.length) s
  | .layerSet tag l base count enable =>
    if enable then requestLink (.read (base * Config.sectorBytes) 16) s else layerDisable tag l base count s
  | .validation _ => validateNext (pendingLayers s.dict) s
  | .imageRead _ addr len => requestLink (.read addr len) s
  | .imageWrite _ addr bytes _ => beginImageWrite addr bytes s
  | .imageErase _ sector => beginImageErase sector s
  | .journalSeek tag job seq _ _ _ _ => seekSector tag job seq (s.journal.bySerial.map (·.1)) s
  | .journalRead tag wanted got => exportNext tag wanted got s
  | .journalErase tag todo erased => eraseNext tag todo erased s
  | .nextSeek candidates _ final => seekCandidate candidates final s
  | .storeSettings _ record done _ => requestLink (storeOp record done) s

/-- The item at the head begins (R163). An export is served behind the journal's own operations, so it waits
for the end of a scan (section 8.9, log 43). -/
def headStep (s : State) : Option State :=
  if s.port.headBegun then none
  else
    match s.port.items with
    | [] => none
    | i :: _ =>
      if i.isExport && s.journal.scan.isSome then none
      else some (beginItem i (s.mapPort fun p => { p with headBegun := true }))

/-- The outcome of an operation of the item at the head. -/
def itemOutcome (i : LinkItem) (o : OpOutcome) (s : State) : State :=
  match i with
  | .settingsLoad parts => settingsLoadOutcome parts o s
  | .layerSet tag l base count _ => layerSetOutcome tag l base count o s
  | .validation layers => validationOutcome layers o s
  | .imageRead tag _ _ => imageReadOutcome tag o s
  | .imageWrite tag addr bytes reading => imageWriteOutcome tag addr bytes reading o s
  | .imageErase tag _ => imageEraseOutcome tag o s
  | .journalSeek tag job seq sector slot names later =>
    journalSeekOutcome tag job seq sector slot names later o s
  | .journalRead tag wanted got => journalReadOutcome tag wanted got o s
  | .journalErase tag todo erased => journalEraseOutcome tag todo erased o s
  | .nextSeek candidates blank final => nextSeekOutcome candidates blank final o s
  | .storeSettings tag record done same => storeOutcome tag record done same o s

/-- The outcome of the link-side requester's operation (R163). -/
def linkOutcome (o : OpOutcome) (s : State) : State :=
  match s.port.items with
  | [] => s
  | i :: _ => itemOutcome i o s

end Sys2Proof.Machine
end

