-- ==== Sys2Proof/Machine/Completion.lean ====
section
/-! DEFINITION. The end of a memory operation: its outcome at its requester (R161, R162, R169). -/

namespace Sys2Proof.Machine

/-- The outcome of the lookup's READ (R47, R50); with no lookup it is dropped (R51). -/
def translationOutcome (o : OpOutcome) (s : State) : State :=
  match s.dict.lookup, o with
  | none, _ => s
  | some k, .success bytes => walkRead k bytes s
  | some k, .timeout => walkTimeout k s

/-- An operation ends: the slot is freed and the outcome is handed to its requester, unless it is dropped
(R161, R51, R145). -/
def operationEnds (f : InFlight) (o : OpOutcome) (s : State) : State :=
  let s := freeSlot s
  if f.dropped then s
  else match f.requester with
    | .journal => journalOutcome o s
    | .translation => translationOutcome o s
    | .link => linkOutcome o s

/-- An operation times out: it is counted, MEMORY_FAULT is raised, and the outcome is handed on (R162). -/
def operationTimesOut (f : InFlight) (s : State) : State := operationEnds f .timeout (countMemoryFault s)

/-- How long BUSY_WAIT may last (R161). -/
def MemOp.busyTimeout : MemOp → Nat
  | .read _ _ => 0
  | .program _ _ => Config.programTimeout
  | .erase _ => Config.eraseTimeout

/-- A PROGRAM or an ERASE. -/
def MemOp.selfTimed : MemOp → Bool
  | .read _ _ => false
  | .program _ _ => true
  | .erase _ => true

/-- A PROGRAM. -/
def MemOp.isProgram : MemOp → Bool
  | .read _ _ => false
  | .program _ _ => true
  | .erase _ => false

/-- An ERASE. -/
def MemOp.isErase : MemOp → Bool
  | .read _ _ => false
  | .program _ _ => false
  | .erase _ => true

/-- The operation in flight enters a phase. -/
def enterPhase (ph : Phase) (deadline : Nat) (s : State) : State :=
  s.mapPort fun p => { p with inFlight := p.inFlight.map fun f => { f with phase := ph, deadline := deadline } }

/-- The operation in flight has been issued to the device, which may be running it (R161). -/
def InFlight.issued (f : InFlight) : Bool := f.phase != .readyWait

/-- The device when a reset cuts off the operation in flight (R159). -/
def deviceAtReset (s : State) : Device :=
  match s.port.inFlight with
  | some f => if f.issued then s.device.cutOff f.op else s.device
  | none => s.device

end Sys2Proof.Machine
end

