-- ==== Sys2Proof/Machine/Cascade.lean ====
section
/-! DEFINITION. What the blocks go on to do by themselves within one step: each block's next piece of
work, and all of it until nothing is left to do. -/

namespace Sys2Proof.Machine

/-- The next piece of work that a block can do at once; none when every block waits. DESIGN CHOICE
(log 6): where two blocks could go on, this is the order. The arbiter's grant comes last, so that a
requester which follows one operation with another competes for the slot at once (R163). -/
def internalStep (s : State) : Option State :=
  (evaluationStep s).or <| (takeStep s).or <| (drainStep s).or <| (journalStep s).or <| (abortStep s).or <|
    (headStep s).or (grantStep s)

/-- Work goes on until every block waits. The first argument bounds the pieces of work. -/
def cascade : Nat → State → State
  | 0, s => s
  | n + 1, s =>
    match internalStep s with
    | none => s
    | some s' => cascade n s'

/-- More pieces of work than one step can hold: a full ring taken and passed, with its evaluations (log 6). -/
def cascadeBound : Nat := 4096

/-- The blocks do all the work they can within the step, which is whole and indivisible (file 95). -/
def runBlocks (s : State) : State := cascade cascadeBound s

/-- What a command answers. -/
abbrev Result := Host.Outcome State Fault Refusal

end Sys2Proof.Machine
end

