-- ==== Sys2Proof/Machine/FeedCmds.lean ====
section
/-! DEFINITION. The commands of the feed unit (chapter 7). -/

namespace Sys2Proof.Machine

/-! ## Events -/

/-- The 1 ms sample: the levels are kept, and taken once the ports have their states (R119). -/
def runSample (lines : Presence) (s : State) : State :=
  let s := { s with presence := lines }
  if s.boot.sensing then sampleLines lines s else s

/-- The change of a viewer port's line present that a sample would make (R119). -/
def sampleChange (i : PortId) (lines : Presence) (s : State) : Option Bool :=
  if s.boot.sensing ∧ i ≠ .p0 then ((s.feeds.port i).sample (lineLevel lines i)).2 else none

/-- LINE_SENSE_SAMPLE (R119). -/
def execLineSenseSample (lines : Presence) (s : State) : Result := .next (runSample lines s)

/-- LINE_GAINED (R119): the sample at which the port's line is gained; where the sample gains no line
there, nothing changes (log 9, log 15). -/
def execLineGained (port : PortId) (lines : Presence) (s : State) : Result :=
  if sampleChange port lines s = some true then .next (runSample lines s) else .next s

/-- LINE_LOST (R120): the sample at which the port's line is lost (log 9, log 15). -/
def execLineLost (port : PortId) (lines : Presence) (s : State) : Result :=
  if sampleChange port lines s = some false then .next (runSample lines s) else .next s

/-- PACING_EXPIRY (R126). -/
def execPacingExpiry (s : State) : Result := .next (pace s)

/-- FRAME_COMPLETION (R130): the frame in flight becomes none, and a choice is made. -/
def execFrameCompletion (port : PortId) (s : State) : Result :=
  if (s.feeds.port port).frame.isSome then
    .next (chooseOne port
      (s.mapFeeds fun f => f.setPort port { f.port port with frame := none }))
  else .next s

/-! ## PROFILE_SET (R117) -/

/-- A profile from its fields, clamped (R117). -/
def clampedProfile (mode : ProfileMode) (hold : Bool) (rate burst depth : Nat) : Profile where
  mode := mode
  rate := clamp 10 960 rate
  burst := clamp 1 64 burst
  hold := hold
  refreshDepth := clamp 0 2048 depth

/-- A mapped port after its profile has changed (R117). -/
def Port.profileChanged (old new : Profile) (start : Nat) (p : Port) : Port :=
  let p := { p with credit := min p.credit new.cap }
  if p.active ∧ (old.mode ≠ new.mode ∨ old.refreshDepth ≠ new.refreshDepth) then p.enter .refreshing start
  else p

/-- A profile takes new fields, and the ports mapped to it follow (R117, R127). -/
def applyProfile (i : ProfileId) (new : Profile) (s : State) : State :=
  let old := s.feeds.profile i
  let start := retainStart s
  let s := s.mapFeeds fun f => (f.setProfile i new).mapPorts fun _ p =>
    if p.profile = i then p.profileChanged old new start else p
  (allPorts.filter fun k => (s.feeds.port k).profile = i).foldl (fun s k => chooseOne k s) s

/-- PROFILE_SET at its owner (R117). -/
def askProfileSet (r : Request) (payload : List Byte) (s : State) : State :=
  match profileOf (byteAt payload 0), modeOf (byteAt payload 1), boolOf (byteAt payload 5) with
  | some i, some mode, some hold =>
    let new := clampedProfile mode hold (fieldAt payload 2 2) (fieldAt payload 4 1) (fieldAt payload 6 2)
    answer r .ok (be16 new.rate ++ be8 new.burst ++ be16 new.refreshDepth) (applyProfile i new s)
  | _, _, _ => answer r .badValue [] s

/-- PROFILE_SET taken (R180). -/
def requestProfileSet (tag : Byte) (payload : List Byte) (s : State) : State :=
  takeRequest kindProfileSet tag payload (some 8) askProfileSet s

/-- PROFILE_SET (R117). -/
def execProfileSet (tag : Byte) (payload : List Byte) (s : State) : Result :=
  .next (requestProfileSet tag payload s)

/-! ## PORT_SET (R118) -/

/-- The line is present: port 0's always is (R115). -/
def Port.lineThere (p : Port) (i : PortId) : Bool := i == .p0 || p.linePresent

/-- A port with its enable applied (R118, R120). -/
def Port.applyEnable (i : PortId) (enable : Bool) (cap start : Nat) (p : Port) : Port :=
  if enable then
    { p with enable := true, credit := min p.credit cap : Port }.enter
      (if p.lineThere i then .refreshing else .detached) start
  else { p with enable := false : Port }.enter .off start

/-- PORT_SET applied to a port. -/
def applyPort (i : PortId) (enable : Bool) (profile : ProfileId) (speed : LineSpeed) (s : State) : State :=
  let p : Port := { s.feeds.port i with profile := profile, speed := speed }
  let p := p.applyEnable i enable (s.feeds.profile profile).cap (retainStart s)
  chooseOne i (s.mapFeeds fun f => f.setPort i p)

/-- The line speed a PORT_SET gives: for port 0 it is ignored, and stays as it is (R118). -/
def speedGiven (i : PortId) (p : Port) (b : Byte) : Option LineSpeed :=
  if i = .p0 then some p.speed else speedOf b

/-- PORT_SET at its owner (R118). -/
def askPortSet (r : Request) (payload : List Byte) (s : State) : State :=
  match portOf (byteAt payload 0).toNat with
  | none => answer r .badValue [] s
  | some i =>
    match boolOf (byteAt payload 1), profileOf (byteAt payload 2),
      speedGiven i (s.feeds.port i) (byteAt payload 3) with
    | some enable, some profile, some speed => answer r .ok [] (applyPort i enable profile speed s)
    | _, _, _ => answer r .badValue [] s

/-- PORT_SET taken (R180). -/
def requestPortSet (tag : Byte) (payload : List Byte) (s : State) : State :=
  takeRequest kindPortSet tag payload (some 4) askPortSet s

/-- PORT_SET (R118). -/
def execPortSet (tag : Byte) (payload : List Byte) (s : State) : Result :=
  .next (requestPortSet tag payload s)

/-! ## PORT_QUERY (R122) -/

/-- A port's fields in a PORT_QUERY reply (R181). -/
def Port.fields (i : PortId) (p : Port) : List Byte :=
  [boolCode p.enable, profileCode p.profile, speedByte i p, portStateCode p.state] ++ be32 p.base ++
    be32 p.displayed ++ be32 p.valid ++ be32 p.settledSent ++ be16 p.credit

/-- The fields of a PORT_QUERY reply (R181). -/
def portQueryFields (f : Feeds) : List Byte :=
  profilePart f.profileA ++ profilePart f.profileB ++ profilePart f.profileC ++
    allPorts.flatMap (fun i => (f.port i).fields i) ++
    viewerPorts.flatMap (fun i => [boolCode (f.port i).linePresent, boolCode (f.port i).lineFault])

/-- PORT_QUERY at its owner (R122). -/
def askPortQuery (r : Request) (_ : List Byte) (s : State) : State := answer r .ok (portQueryFields s.feeds) s

/-- PORT_QUERY taken (R180). -/
def requestPortQuery (tag : Byte) (payload : List Byte) (s : State) : State :=
  takeRequest kindPortQuery tag payload (some 0) askPortQuery s

/-- PORT_QUERY (R122). -/
def execPortQuery (tag : Byte) (payload : List Byte) (s : State) : Result :=
  .next (requestPortQuery tag payload s)

end Sys2Proof.Machine
end

