-- ==== Sys2Proof/Machine/LayerCmds.lean ====
section
/-! DEFINITION. The commands of the dictionary layers and the overlay (chapter 3). -/

namespace Sys2Proof.Machine

/-- An open or an abort is pending at the job controller (R176). -/
def Job.pendingAny (j : Job) : Bool := j.openPending.isSome || j.abortPending.isSome

/-- The job is OPEN or CLOSING. -/
def Job.running (j : Job) : Bool := j.state == .opened || j.state == .closing

/-! ## LAYER_SET and LAYER_QUERY -/

/-- The checks of R40 on the fields, in order; none is a pass. -/
def layerSetRefusal (p : Params) (layer base count : Nat) (enable : Option Bool) : Option ReplyCode :=
  if (layerOf layer).isNone then some .badValue
  else if enable.isNone then some .badValue
  else if count = 0 ∧ enable = some true then some .badValue
  else if !layerRegionOk base count then some .badValue
  else if !layerRegionFree p base count then some .protected_
  else none

/-- LAYER_SET at its owner (R40). -/
def askLayerSet (r : Request) (payload : List Byte) (s : State) : State :=
  let layer := (byteAt payload 0).toNat
  let base := fieldAt payload 1 2
  let count := fieldAt payload 3 2
  let enable := boolOf (byteAt payload 5)
  if s.job.openPending.isSome then answer r .busy [] s
  else if s.job.running then answer r .state [] s
  else
    match layerSetRefusal s.params layer base count enable, layerOf layer, enable with
    | none, some l, some e => runBlocks (pushItem (.layerSet r.tag l base count e) s)
    | some code, _, _ => answer r code [] s
    | none, _, _ => answer r .badValue [] s

/-- LAYER_SET taken (R180). -/
def requestLayerSet (tag : Byte) (payload : List Byte) (s : State) : State :=
  takeRequest kindLayerSet tag payload (some 6) askLayerSet s

/-- LAYER_SET (R40, R41). -/
def execLayerSet (tag : Byte) (payload : List Byte) (s : State) : Result :=
  .next (requestLayerSet tag payload s)

/-- A layer's fields in a LAYER_QUERY reply (R181). -/
def Layer.fields (l : Layer) : List Byte :=
  be16 l.base ++ be16 l.count ++ [boolCode l.enable, boolCode l.valid, boolCode l.checkPending] ++
    be8 l.bucketBits ++ be32 l.entryCount ++ be32 l.imageLength ++ be32 l.faultCount

/-- LAYER_QUERY at its owner (R44). -/
def askLayerQuery (r : Request) (_ : List Byte) (s : State) : State :=
  answer r .ok (be16 s.dict.overlay.length ++ allLayers.flatMap fun i => (s.dict.layer i).fields) s

/-- LAYER_QUERY taken (R180). -/
def requestLayerQuery (tag : Byte) (payload : List Byte) (s : State) : State :=
  takeRequest kindLayerQuery tag payload (some 0) askLayerQuery s

/-- LAYER_QUERY (R44). -/
def execLayerQuery (tag : Byte) (payload : List Byte) (s : State) : Result :=
  .next (requestLayerQuery tag payload s)

/-! ## The overlay's requests (R53 to R58) -/

/-- The value checks of R53. -/
def defineValuesOk (count textLength : Nat) (flags : Byte) (codes : List Nat) (text : List Byte) : Bool :=
  1 ≤ count && count ≤ 8 && codes.all validCode && textLength ≤ 48 && text.all textByte &&
    overlayFlagsValid flags && !(hasFlag flags flagSuppress && 0 < textLength)

/-- The stroke codes of checked values. -/
def toCodes (codes : List Nat) : List Code := codes.map (BitVec.ofNat 23)

/-- The overlay with an entry replaced or added at its end (R54). -/
def overlayPut (overlay : List OverlayEntry) (e : OverlayEntry) : List OverlayEntry :=
  if overlay.any (fun x => x.sequence == e.sequence) then
    overlay.map fun x => if x.sequence = e.sequence then e else x
  else overlay ++ [e]

/-- A change of the overlay, reported to the translation engine in the same step (R52, R95). -/
def changeOverlay (overlay : List OverlayEntry) (reach : Bool) (s : State) : State :=
  overlayChanged reach (s.mapDict fun d => { d with overlay := overlay })

/-- A checked DEFINE is applied (R54). -/
def applyDefine (r : Request) (reach : Bool) (e : OverlayEntry) (s : State) : State :=
  let held := s.dict.overlay.any fun x => x.sequence == e.sequence
  if !held && Config.overlayEntries ≤ s.dict.overlay.length then answer r .full [] s
  else
    let overlay := overlayPut s.dict.overlay e
    runBlocks (answer r .ok ([boolCode held] ++ be16 overlay.length) (changeOverlay overlay reach s))

/-- DEFINE at its owner (R53). -/
def askDefine (r : Request) (payload : List Byte) (s : State) : State :=
  let count := (byteAt payload 2).toNat
  let textLength := (byteAt payload 3).toNat
  let codes := codesOf ((payload.drop 4).take (3 * count))
  let text := payload.drop (4 + 3 * count)
  let flags := byteAt payload 1
  if payload.length ≠ 4 + 3 * count + textLength then answer r .badLength [] s
  else if !defineValuesOk count textLength flags codes text then answer r .badValue [] s
  else applyDefine r (hasFlag (byteAt payload 0) 0x01) ⟨toCodes codes, flags, text⟩ s

/-- DEFINE taken (R180). -/
def requestDefine (tag : Byte) (payload : List Byte) (s : State) : State :=
  takeRequest kindDefine tag payload none askDefine s

/-- DEFINE (R54). -/
def execDefine (tag : Byte) (payload : List Byte) (s : State) : Result :=
  .next (requestDefine tag payload s)

/-- The sequence of an UNDEFINE or OVERLAY_QUERY payload, or the refusal (R55). -/
def sequenceField (payload : List Byte) : Except ReplyCode (List Code) :=
  let count := (byteAt payload 0).toNat
  let codes := codesOf (payload.drop 1)
  if payload.length ≠ 1 + 3 * count then .error .badLength
  else if !(1 ≤ count && count ≤ 8 && codes.all validCode) then .error .badValue
  else .ok (toCodes codes)

/-- UNDEFINE at its owner (R55). -/
def askUndefine (r : Request) (payload : List Byte) (s : State) : State :=
  match sequenceField payload with
  | .error code => answer r code [] s
  | .ok codes =>
    if !(s.dict.overlay.any fun x => x.sequence == codes) then answer r .notFound [] s
    else
      let overlay := s.dict.overlay.filter fun x => x.sequence != codes
      runBlocks (answer r .ok (be16 overlay.length) (changeOverlay overlay false s))

/-- UNDEFINE taken (R180). -/
def requestUndefine (tag : Byte) (payload : List Byte) (s : State) : State :=
  takeRequest kindUndefine tag payload none askUndefine s

/-- UNDEFINE (R55). -/
def execUndefine (tag : Byte) (payload : List Byte) (s : State) : Result :=
  .next (requestUndefine tag payload s)

/-- OVERLAY_CLEAR at its owner (R56). -/
def askOverlayClear (r : Request) (_ : List Byte) (s : State) : State :=
  runBlocks (answer r .ok (be16 s.dict.overlay.length) (changeOverlay [] false s))

/-- OVERLAY_CLEAR taken (R180). -/
def requestOverlayClear (tag : Byte) (payload : List Byte) (s : State) : State :=
  takeRequest kindOverlayClear tag payload (some 0) askOverlayClear s

/-- OVERLAY_CLEAR (R56). -/
def execOverlayClear (tag : Byte) (payload : List Byte) (s : State) : Result :=
  .next (requestOverlayClear tag payload s)

/-- OVERLAY_QUERY at its owner (R58). -/
def askOverlayQuery (r : Request) (payload : List Byte) (s : State) : State :=
  match sequenceField payload with
  | .error code => answer r code [] s
  | .ok codes =>
    let continues := boolCode (overlayContinues s.dict.overlay codes)
    let count := be16 s.dict.overlay.length
    match overlayMatch s.dict.overlay codes with
    | some e => answer r .ok ([e.flags, continues] ++ count ++ be8 e.text.length ++ e.text) s
    | none => answer r .notFound ([continues] ++ count) s

/-- OVERLAY_QUERY taken (R180). -/
def requestOverlayQuery (tag : Byte) (payload : List Byte) (s : State) : State :=
  takeRequest kindOverlayQuery tag payload none askOverlayQuery s

/-- OVERLAY_QUERY (R58). -/
def execOverlayQuery (tag : Byte) (payload : List Byte) (s : State) : Result :=
  .next (requestOverlayQuery tag payload s)

end Sys2Proof.Machine
end

