-- ==== Sys2Proof/Machine/JobCmds.lean ====
section
/-! DEFINITION. The commands of jobs, marks, the journal and the translation engine's timer (chapters 2, 4,
8 and 10). -/

namespace Sys2Proof.Machine

/-- FORCED_RESOLUTION_EXPIRY (R81). -/
def execForcedResolutionExpiry (s : State) : Result :=
  if s.engine.timerDue.any (· ≤ s.now) then .next (runBlocks (timerExpired s)) else .next s

/-! ## Jobs (R171, R173, R175) -/

/-- A JOB_OPEN that has passed its checks is recorded, and its validation queued (R171). -/
def acceptOpen (o : OpenPending) (s : State) : State :=
  runBlocks (pushItem (.validation []) (s.mapJob fun j => { j with openPending := some o }))

/-- JOB_OPEN with the journal's answer (R171, R151). -/
def openAnswered (r : Request) (job : Nat) (allow : Bool) (s : State) : State :=
  match journalAnswer s with
  | .busy => answer r .busy [] s
  | .seeks => runBlocks (answer r .busy [] (startSeek s.journal.current false s))
  | .notReady cause =>
    if allow then acceptOpen ⟨r.tag, job, allow, cause⟩ s
    else answer r .journal [journalCauseCode cause] s
  | .ready => acceptOpen ⟨r.tag, job, allow, .noCause⟩ s

/-- JOB_OPEN at its owner (R171). -/
def askJobOpen (r : Request) (payload : List Byte) (s : State) : State :=
  let job := fieldAt payload 0 2
  if s.job.pendingAny then answer r .busy [] s
  else if s.job.running then answer r .state [] s
  else if job = 0 then answer r .badValue [] s
  else
    match boolOf (byteAt payload 2) with
    | none => answer r .badValue [] s
    | some allow => openAnswered r job allow s

/-- JOB_OPEN taken (R180). -/
def requestJobOpen (tag : Byte) (payload : List Byte) (s : State) : State :=
  takeRequest kindJobOpen tag payload (some 3) askJobOpen s

/-- JOB_OPEN (R171). -/
def execJobOpen (tag : Byte) (payload : List Byte) (s : State) : Result :=
  .next (requestJobOpen tag payload s)

/-- JOB_CLOSE at its owner (R173). -/
def askJobClose (r : Request) (_ : List Byte) (s : State) : State :=
  if s.job.state = .opened then runBlocks (closeTaken r.tag s) else answer r .state [] s

/-- JOB_CLOSE taken (R180). -/
def requestJobClose (tag : Byte) (payload : List Byte) (s : State) : State :=
  takeRequest kindJobClose tag payload (some 0) askJobClose s

/-- JOB_CLOSE (R173). -/
def execJobClose (tag : Byte) (payload : List Byte) (s : State) : Result :=
  .next (requestJobClose tag payload s)

/-- JOB_ABORT at its owner (R175). -/
def askJobAbort (r : Request) (_ : List Byte) (s : State) : State :=
  if s.job.running then runBlocks (abortTaken r.tag s) else answer r .state [] s

/-- JOB_ABORT taken (R180). -/
def requestJobAbort (tag : Byte) (payload : List Byte) (s : State) : State :=
  takeRequest kindJobAbort tag payload (some 0) askJobAbort s

/-- JOB_ABORT (R175). -/
def execJobAbort (tag : Byte) (payload : List Byte) (s : State) : Result :=
  .next (requestJobAbort tag payload s)

/-! ## STRIKE and MARK (R30, R31) -/

/-- A MARK or STRIKE record arrives at the ring, and the request is answered with its outcome (R30). -/
def hostArrival (r : Request) (body : RecordBody) (s : State) : State :=
  runBlocks (answer r .ok (s.ring.arrive body).2.fields (arrive body s))

/-- STRIKE at its owner (R31). -/
def askStrike (r : Request) (_ : List Byte) (s : State) : State :=
  if s.job.state = .opened then hostArrival r (hostRecord .strike 0 s.former) s else answer r .state [] s

/-- STRIKE taken (R180). -/
def requestStrike (tag : Byte) (payload : List Byte) (s : State) : State :=
  takeRequest kindStrike tag payload (some 0) askStrike s

/-- STRIKE (R31). -/
def execStrike (tag : Byte) (payload : List Byte) (s : State) : Result :=
  .next (requestStrike tag payload s)

/-- MARK at its owner (R30). -/
def askMark (r : Request) (payload : List Byte) (s : State) : State :=
  let number := (byteAt payload 0).toNat
  if s.job.state ≠ .opened then answer r .state [] s
  else if 15 < number then answer r .badValue [] s
  else hostArrival r (hostRecord .mark (BitVec.ofNat 23 number) s.former) s

/-- MARK taken (R180). -/
def requestMark (tag : Byte) (payload : List Byte) (s : State) : State :=
  takeRequest kindMark tag payload (some 1) askMark s

/-- MARK (R30). -/
def execMark (tag : Byte) (payload : List Byte) (s : State) : Result :=
  .next (requestMark tag payload s)

/-! ## Export and erase (R154 to R156) -/

/-- JOURNAL_SEEK at its owner (R154). -/
def askJournalSeek (r : Request) (payload : List Byte) (s : State) : State :=
  let job := fieldAt payload 0 2
  if s.journal.scan.isSome then answer r .busy [] s
  else if job = 0 then answer r .badValue [] s
  else runBlocks (pushItem (.journalSeek r.tag job (fieldAt payload 2 4) 0 0 false []) s)

/-- JOURNAL_SEEK taken (R180). -/
def requestJournalSeek (tag : Byte) (payload : List Byte) (s : State) : State :=
  takeRequest kindJournalSeek tag payload (some 6) askJournalSeek s

/-- JOURNAL_SEEK (R154). -/
def execJournalSeek (tag : Byte) (payload : List Byte) (s : State) : Result :=
  .next (requestJournalSeek tag payload s)

/-- JOURNAL_READ at its owner (R155). -/
def askJournalRead (r : Request) (payload : List Byte) (s : State) : State :=
  let count := (byteAt payload 0).toNat
  if s.journal.scan.isSome then answer r .busy [] s
  else if count < 1 ∨ 7 < count then answer r .badValue [] s
  else runBlocks (pushItem (.journalRead r.tag count []) s)

/-- JOURNAL_READ taken (R180). -/
def requestJournalRead (tag : Byte) (payload : List Byte) (s : State) : State :=
  takeRequest kindJournalRead tag payload (some 1) askJournalRead s

/-- JOURNAL_READ (R155). -/
def execJournalRead (tag : Byte) (payload : List Byte) (s : State) : Result :=
  .next (requestJournalRead tag payload s)

/-- JOURNAL_ERASE at its owner (R156, R176). -/
def askJournalErase (r : Request) (payload : List Byte) (s : State) : State :=
  let first := fieldAt payload 0 2
  let count := fieldAt payload 2 2
  if s.job.pendingAny then answer r .busy [] s
  else if s.journal.scan.isSome then answer r .busy [] s
  else if s.job.running then answer r .state [] s
  else if count = 0 ∨ s.params.journalCount < first + count then answer r .badValue [] s
  else
    let sectors := (List.range count).map fun k => s.params.journalBase + first + k
    runBlocks (pushItem (.journalErase r.tag sectors 0) s)

/-- JOURNAL_ERASE taken (R180). -/
def requestJournalErase (tag : Byte) (payload : List Byte) (s : State) : State :=
  takeRequest kindJournalErase tag payload (some 4) askJournalErase s

/-- JOURNAL_ERASE (R156). -/
def execJournalErase (tag : Byte) (payload : List Byte) (s : State) : Result :=
  .next (requestJournalErase tag payload s)

end Sys2Proof.Machine
end

