-- ==== Sys2Proof/Machine/KeyCmds.lean ====
section
/-! DEFINITION. The commands of key sensing and stroke formation (chapter 1). -/

namespace Sys2Proof.Machine

/-! ## Events -/

/-- The evaluation and what follows from it in the step: a guard of 0 ms may close a stroke (R4, R15). -/
def runEvaluation (levels : Levels) (s : State) : State := runBlocks (evaluation levels s)

/-- What R6 decides for one channel at an evaluation that is about to be taken; none while key sensing has
not begun. -/
def decisionAt (ch : Fin 23) (levels : Levels) (s : State) : Option (ChannelState × Option KeyFault) :=
  if s.boot.sensing then
    (s.keys.channels[ch.val]?).bind fun c => channelDecision s.params c levels[ch]
  else none

/-- EVALUATION (R4). -/
def execEvaluation (levels : Levels) (s : State) : Result := .next (runEvaluation levels s)

/-- DEBOUNCE_HELD (R6): the evaluation at which the channel changes state by a line of R6 other than the
stuck limit's. Where the evaluation makes no such change the event does not occur, and nothing changes
(log 9, log 15). -/
def execDebounceHeld (ch : Fin 23) (levels : Levels) (s : State) : Result :=
  match decisionAt ch levels s with
  | some (state, _) => if state = .stuck then .next s else .next (runEvaluation levels s)
  | none => .next s

/-- STUCK_LIMIT_REACHED (R7): the evaluation at which the channel becomes STUCK (log 9, log 15). -/
def execStuckLimitReached (ch : Fin 23) (levels : Levels) (s : State) : Result :=
  match decisionAt ch levels s with
  | some (state, _) => if state = .stuck then .next (runEvaluation levels s) else .next s
  | none => .next s

/-- The release guard has run out (R16). -/
def StrokeFormer.guardOver (f : StrokeFormer) (now : Nat) : Bool :=
  f.state == .releasing && f.guardDue.any (· ≤ now)

/-- RELEASE_GUARD_EXPIRY (R16): the stroke closes. -/
def execReleaseGuardExpiry (s : State) : Result :=
  if s.former.guardOver s.now then .next (runBlocks (closeStroke s)) else .next s

/-- AFRM_EDGE (R19). -/
def execAfrmEdge (s : State) : Result :=
  .next (s.mapFormer fun f => { f with audioCount := f.audioCount + 1, audioSeen := true })

/-! ## Requests -/

/-- CHANNEL_SET at its owner (R11, R3). -/
def askChannelSet (r : Request) (payload : List Byte) (s : State) : State :=
  let ch := (byteAt payload 0).toNat
  match boolOf (byteAt payload 1) with
  | none => answer r .badValue [] s
  | some enable =>
    if 22 < ch then answer r .badValue [] s
    else
      let level := appliedDownLevel s.params.upLevel (byteAt payload 2).toNat
      answer r .ok (be8 level) (s.mapKeys fun k =>
        { k with channels := k.channels.modify ch fun c => c.set enable level })

/-- CHANNEL_SET taken (R180). -/
def requestChannelSet (tag : Byte) (payload : List Byte) (s : State) : State :=
  takeRequest kindChannelSet tag payload (some 3) askChannelSet s

/-- CHANNEL_SET (R11). -/
def execChannelSet (tag : Byte) (payload : List Byte) (s : State) : Result :=
  .next (requestChannelSet tag payload s)

/-- A channel's fields in a CHANNEL_QUERY reply (R181). -/
def Channel.fields (c : Channel) : List Byte :=
  [boolCode c.enable] ++ be8 c.downLevel ++ [channelStateCode c.state, keyFaultCode c.latch, c.lastLevel]

/-- CHANNEL_QUERY at its owner (R12). -/
def askChannelQuery (r : Request) (_ : List Byte) (s : State) : State :=
  answer r .ok (be8 s.params.upLevel ++ s.keys.channels.flatMap Channel.fields) s

/-- CHANNEL_QUERY taken (R180). -/
def requestChannelQuery (tag : Byte) (payload : List Byte) (s : State) : State :=
  takeRequest kindChannelQuery tag payload (some 0) askChannelQuery s

/-- CHANNEL_QUERY (R12). -/
def execChannelQuery (tag : Byte) (payload : List Byte) (s : State) : Result :=
  .next (requestChannelQuery tag payload s)

/-- A port of a port set has its line latch cleared; port 0 has none (R121). -/
def clearLineLatches (set : Nat) (s : State) : State :=
  s.mapFeeds fun f => f.mapPorts fun i p =>
    if i ≠ .p0 ∧ set.testBit (PortId.number i) then { p with lineFault := false } else p

/-- FAULT_CLEAR at its owners (R10, R121): a channel above 22 or a port above 4 refuses the whole. -/
def askFaultClear (r : Request) (payload : List Byte) (s : State) : State :=
  let channels := fieldAt payload 0 3
  let ports := fieldAt payload 3 1
  if 2 ^ 23 ≤ channels ∨ 2 ^ 5 ≤ ports then answer r .badValue [] s
  else answer r .ok [] (clearLineLatches ports (clearKeyLatches channels s))

/-- FAULT_CLEAR taken (R180). -/
def requestFaultClear (tag : Byte) (payload : List Byte) (s : State) : State :=
  takeRequest kindFaultClear tag payload (some 4) askFaultClear s

/-- FAULT_CLEAR (R10, R121). -/
def execFaultClear (tag : Byte) (payload : List Byte) (s : State) : Result :=
  .next (requestFaultClear tag payload s)

end Sys2Proof.Machine
end

