-- ==== Sys2Proof/Machine/LinkCmds.lean ====
section
/-! DEFINITION. The host link's commands other than parameters: discards, the outbound queue, IDENTIFY,
STATUS and the condition requests (chapter 11). -/

namespace Sys2Proof.Machine

/-! ## The receive side (R178, R180) -/

/-- FRAME_DISCARDED (R178). -/
def execFrameDiscarded (s : State) : Result := .next (countLinkFault (endFrame s))

/-- REQUEST_DISCARDED (R180): where the frame would be taken, the event does not occur (log 9). -/
def execRequestDiscarded (tag : Byte) (s : State) : Result :=
  if s.link.outstanding ≥ Config.outstandingRequests || tag == 0 then .next (countLinkFault (endFrame s))
  else .next s

/-- BAD_KIND_REQUEST (R180). -/
def execBadKindRequest (kind tag : Byte) (s : State) : Result := .next (takeBadKind kind tag s)

/-- LINK_RESYNC (R178): nothing changes outside the framer. -/
def execLinkResync (s : State) : Result := .next (endFrame s)

/-! ## The outbound side (R179, R183) -/

/-- The departure of the message at the head of the queue (R179, R180, R182). -/
def departHead (m : Message) (s : State) : State :=
  let s := s.mapLink fun l =>
    { l with
      queue := l.queue.drop 1
      sdo := m.bytes.getLastD 0
      outstanding := if m.isReply then l.outstanding - 1 else l.outstanding }
  testAttn (if m.isReply then s else noticeSpaceFreed s)

/-- MESSAGE_DEPARTURE (R179): the rest of the head message is clocked out. -/
def execMessageDeparture (s : State) : Result :=
  match s.link.queue with
  | [] => .next s
  | m :: _ => .next (departHead m s)

/-- BYTE_CLOCKED_OUT (R179): the next unsent byte of the head message, or 00h. -/
def execByteClockedOut (s : State) : Result :=
  match s.link.queue with
  | [] => .next (s.mapLink fun l => { l with sdo := 0 })
  | m :: rest =>
    if m.sent + 1 < m.bytes.length then
      .next (s.mapLink fun l =>
        { l with queue := { m with sent := m.sent + 1 } :: rest, sdo := byteAt m.bytes m.sent })
    else .next (departHead m s)

/-- GATHER_TIME_EXPIRY (R183): ATTN follows the age of the oldest notice. -/
def execGatherTimeExpiry (s : State) : Result := .next (testAttn s)

/-! ## IDENTIFY and STATUS (R187) -/

/-- The capacities of an IDENTIFY reply (R187, R181). -/
def identifyFields : List Byte :=
  be16 0x5742 ++ be16 0x0740 ++ be8 1 ++ be8 Config.channelCount ++ be8 Config.ringEntries ++
    be16 Config.overlayEntries ++ be8 4 ++ be8 Config.windowStrokes ++ be8 Config.chunkRecords ++ be8 5 ++
    be8 Config.queueMessages ++ be8 Config.outstandingRequests ++ be8 Config.framePayload

/-- IDENTIFY at its owner (R187). -/
def askIdentify (r : Request) (_ : List Byte) (s : State) : State := answer r .ok identifyFields s

/-- IDENTIFY taken (R180). -/
def requestIdentify (tag : Byte) (payload : List Byte) (s : State) : State :=
  takeRequest kindIdentify tag payload (some 0) askIdentify s

/-- IDENTIFY (R187). -/
def execIdentify (tag : Byte) (payload : List Byte) (s : State) : Result :=
  .next (requestIdentify tag payload s)

/-- The cause STATUS reports: FAILED while memory failed is set and the mode is IDLE (R137). -/
def Journal.statusCause (j : Journal) : JournalCause :=
  if j.mode = .idle ∧ j.memoryFailed then .failed else j.cause

/-- The fields of a STATUS reply (R187, R181). -/
def statusFields (s : State) : List Byte :=
  [jobStateCode s.job.state] ++ be16 s.job.number ++
    be32 s.ring.nextSeq ++ be8 s.ring.entries.length ++ [boolCode s.ring.holding.isSome] ++
    be8 s.engine.window.length ++ be8 s.engine.chunks.length ++
    be32 s.stream.length ++ be32 s.stream.settled ++
    [journalModeCode s.journal.mode, journalCauseCode s.journal.statusCause,
      boolCode s.journal.durable.isSome] ++
    be32 (s.journal.durable.getD 0) ++ be16 s.journal.blankCount ++ be16 (s.journal.unclosedJob.getD 0) ++
    be32 s.ring.lost ++ be32 s.link.noticesDropped ++ be32 s.journal.amendmentsDropped ++
    be32 s.port.faultCount ++ be32 s.link.linkFaults ++ [boolCode s.link.defaultsInUse]

/-- STATUS at its owner (R187). -/
def askStatus (r : Request) (_ : List Byte) (s : State) : State := answer r .ok (statusFields s) s

/-- STATUS taken (R180). -/
def requestStatus (tag : Byte) (payload : List Byte) (s : State) : State :=
  takeRequest kindStatus tag payload (some 0) askStatus s

/-- STATUS (R187). -/
def execStatus (tag : Byte) (payload : List Byte) (s : State) : Result := .next (requestStatus tag payload s)

/-! ## Conditions (R185) -/

/-- CONDITION_QUERY at its owner (R185). -/
def askConditionQuery (r : Request) (_ : List Byte) (s : State) : State :=
  answer r .ok [topCondition s.link.conditionsPending, s.link.conditionsPending, s.params.reportMask] s

/-- CONDITION_QUERY taken (R180). -/
def requestConditionQuery (tag : Byte) (payload : List Byte) (s : State) : State :=
  takeRequest kindConditionQuery tag payload (some 0) askConditionQuery s

/-- CONDITION_QUERY (R185). -/
def execConditionQuery (tag : Byte) (payload : List Byte) (s : State) : Result :=
  .next (requestConditionQuery tag payload s)

/-- The named conditions are cleared in all three marks (R185). -/
def Link.clearConditions (l : Link) (set : Byte) : Link :=
  { l with
    conditionsPending := l.conditionsPending &&& ~~~set
    notified := l.notified &&& ~~~set
    notifyPending := l.notifyPending &&& ~~~set }

/-- The named level conditions of a list whose cause still holds are raised again (R185). DESIGN CHOICE
(log 51): in the order of the list, which is that of priority. -/
def raiseHeld (set : Byte) (cs : List Condition) (s : State) : State :=
  cs.foldl (fun s c => if hasFlag set c.bit && c.isLevel && causeHolds s c then raise c s else s) s

/-- CONDITION_CLEAR at its owner (R185). -/
def askConditionClear (r : Request) (payload : List Byte) (s : State) : State :=
  let set := byteAt payload 0
  if hasFlag set 0x80 then answer r .badValue [] s
  else
    let s := raiseHeld set allConditions (s.mapLink fun l => l.clearConditions set)
    answer r .ok [s.link.conditionsPending] s

/-- CONDITION_CLEAR taken (R180). -/
def requestConditionClear (tag : Byte) (payload : List Byte) (s : State) : State :=
  takeRequest kindConditionClear tag payload (some 1) askConditionClear s

/-- CONDITION_CLEAR (R185). -/
def execConditionClear (tag : Byte) (payload : List Byte) (s : State) : Result :=
  .next (requestConditionClear tag payload s)

end Sys2Proof.Machine
end

