-- ==== Sys2Proof/Machine/MemoryCmds.lean ====
section
/-! DEFINITION. The commands of the memory port (chapter 9): start-up, the phases of an operation, and the
image requests. -/

namespace Sys2Proof.Machine

/-! ## Start-up (R168, R189) -/

/-- START_UP (R189): every block is reset; the device, its contents and the presence lines are outside the
reset. -/
def execStartUp (s : State) : Result :=
  .next (State.startUp (deviceAtReset s) s.presence s.now s.pending)

/-- The start-up wait is over, with its outcome, and the settings load begins (R168, R189). -/
def startWaitEnds (ready : Bool) (s : State) : State :=
  let s := (s.mapPort fun p => { p with state := .idle, deviceReady := ready }).setBoot .settingsLoad
  pushItem (.settingsLoad []) (if ready then s.mapDevice Device.becomeReady else countMemoryFault s)

/-- START_UP_DEVICE_READY (R168). -/
def execStartUpDeviceReady (s : State) : Result :=
  if s.port.state = .starting ∧ s.now ≤ s.port.startDeadline then .next (runBlocks (startWaitEnds true s))
  else .next s

/-- START_UP_WAIT_TIMEOUT (R168). -/
def execStartUpWaitTimeout (s : State) : Result :=
  if s.port.state = .starting ∧ s.port.startDeadline ≤ s.now then .next (runBlocks (startWaitEnds false s))
  else .next s

/-! ## The phases of an operation (R161, R162) -/

/-- READY_ANSWERED (R161): READY_WAIT ends, and the operation is issued. The requesters form their operations
within the bounds of R160; one outside them is never in flight, and nothing changes (log 37). -/
def execReadyAnswered (s : State) : Result :=
  match s.port.inFlight with
  | none => .next s
  | some f =>
    if f.phase = .readyWait ∧ s.now ≤ f.deadline ∧ f.op.inBounds then
      .next (enterPhase .transfer f.deadline (s.mapDevice Device.becomeReady))
    else .next s

/-- TRANSFER_END (R161): BUSY_WAIT begins. -/
def execTransferEnd (s : State) : Result :=
  match s.port.inFlight with
  | none => .next s
  | some f =>
    if f.phase = .transfer ∧ f.op.selfTimed then .next (enterPhase .busyWait (s.now + f.op.busyTimeout) s)
    else .next s

/-- The bytes a READ in TRANSFER brings; none for another operation. -/
def InFlight.readBytes (f : InFlight) (d : Device) (flips : List Byte) : Option (List Byte) :=
  if f.phase = .transfer then
    match f.op with
    | .read addr len => some (d.readBytes addr len flips)
    | .program _ _ => none
    | .erase _ => none
  else none

/-- READ_COMPLETE (R161): a READ ends with its bytes. -/
def execReadComplete (flips : List Byte) (s : State) : Result :=
  match s.port.inFlight with
  | none => .next s
  | some f =>
    match f.readBytes s.device flips with
    | some bytes => .next (runBlocks (operationEnds f (.success bytes) s))
    | none => .next s

/-- A PROGRAM or ERASE completes: the device has done it, and its requester is told (R161). -/
def selfTimedCompletes (f : InFlight) (s : State) : State :=
  runBlocks (operationEnds f (.success []) (s.mapDevice fun d => d.finish f.op))

/-- PROGRAM_COMPLETE (R161). -/
def execProgramComplete (s : State) : Result :=
  match s.port.inFlight with
  | none => .next s
  | some f =>
    if f.phase = .busyWait ∧ f.op.isProgram ∧ s.now ≤ f.deadline then .next (selfTimedCompletes f s)
    else .next s

/-- ERASE_COMPLETE (R161). -/
def execEraseComplete (s : State) : Result :=
  match s.port.inFlight with
  | none => .next s
  | some f =>
    if f.phase = .busyWait ∧ f.op.isErase ∧ s.now ≤ f.deadline then .next (selfTimedCompletes f s)
    else .next s

/-- READY_TIMEOUT (R162): nothing is issued to the device. -/
def execReadyTimeout (s : State) : Result :=
  match s.port.inFlight with
  | none => .next s
  | some f =>
    if f.phase = .readyWait ∧ f.deadline ≤ s.now then .next (runBlocks (operationTimesOut f s))
    else .next s

/-- COMPLETION_TIMEOUT (R162): the device's bytes are those of cut-off work. -/
def execCompletionTimeout (s : State) : Result :=
  match s.port.inFlight with
  | none => .next s
  | some f =>
    if f.phase = .busyWait ∧ f.deadline ≤ s.now then
      .next (runBlocks (operationTimesOut f (s.mapDevice fun d => d.cutOff f.op)))
    else .next s

/-! ## Image requests (R165 to R167) -/

/-- A sector that image requests may not write: sector 0, or one of the journal region (R166, R167). -/
def sectorProtected (p : Params) (sector : Nat) : Bool :=
  sector == 0 || inRegion p.journalBase p.journalCount sector

/-- IMAGE_READ at its owner (R165). -/
def askImageRead (r : Request) (payload : List Byte) (s : State) : State :=
  let addr := fieldAt payload 0 3
  let len := fieldAt payload 3 1
  if len < 1 ∨ 128 < len ∨ Config.memoryBytes < addr + len then answer r .badValue [] s
  else runBlocks (pushItem (.imageRead r.tag addr len) s)

/-- IMAGE_READ taken (R180). -/
def requestImageRead (tag : Byte) (payload : List Byte) (s : State) : State :=
  takeRequest kindImageRead tag payload (some 4) askImageRead s

/-- IMAGE_READ (R165). -/
def execImageRead (tag : Byte) (payload : List Byte) (s : State) : Result :=
  .next (requestImageRead tag payload s)

/-- The checks of R166 on the fields, in order; none is a pass. -/
def imageWriteRefusal (p : Params) (payload : List Byte) : Option ReplyCode :=
  let addr := fieldAt payload 0 3
  let count := fieldAt payload 3 1
  if payload.length ≠ 4 + count then some .badLength
  else if count < 1 ∨ 128 < count then some .badValue
  else if Config.lineBytes < addr % Config.lineBytes + count then some .badValue
  else if sectorProtected p (addr / Config.sectorBytes) then some .protected_
  else none

/-- IMAGE_WRITE at its owner (R166). -/
def askImageWrite (r : Request) (payload : List Byte) (s : State) : State :=
  if s.job.openPending.isSome then answer r .busy [] s
  else if s.job.running then answer r .state [] s
  else
    match imageWriteRefusal s.params payload with
    | some code => answer r code [] s
    | none => runBlocks (pushItem (.imageWrite r.tag (fieldAt payload 0 3) (payload.drop 4) false) s)

/-- IMAGE_WRITE taken (R180). -/
def requestImageWrite (tag : Byte) (payload : List Byte) (s : State) : State :=
  takeRequest kindImageWrite tag payload none askImageWrite s

/-- IMAGE_WRITE (R166). -/
def execImageWrite (tag : Byte) (payload : List Byte) (s : State) : Result :=
  .next (requestImageWrite tag payload s)

/-- IMAGE_ERASE at its owner (R167). -/
def askImageErase (r : Request) (payload : List Byte) (s : State) : State :=
  let sector := fieldAt payload 0 2
  if s.job.openPending.isSome then answer r .busy [] s
  else if s.job.running then answer r .state [] s
  else if Config.memorySectors ≤ sector then answer r .badValue [] s
  else if sectorProtected s.params sector then answer r .protected_ [] s
  else runBlocks (pushItem (.imageErase r.tag sector) s)

/-- IMAGE_ERASE taken (R180). -/
def requestImageErase (tag : Byte) (payload : List Byte) (s : State) : State :=
  takeRequest kindImageErase tag payload (some 2) askImageErase s

/-- IMAGE_ERASE (R167). -/
def execImageErase (tag : Byte) (payload : List Byte) (s : State) : Result :=
  .next (requestImageErase tag payload s)

end Sys2Proof.Machine
end

