-- ==== Sys2Proof/Machine/ParamCmds.lean ====
section
/-! DEFINITION. The parameter store's commands and STORE_SETTINGS (sections 11.5 and 11.7). -/

namespace Sys2Proof.Machine

/-- The reply to a SET_PARAM or GET_PARAM: the identifier and the value (R181). -/
def answerParam (r : Request) (id : Byte) (value : List Byte) (s : State) : State :=
  answer r .ok (id :: value) s

/-- A SET_PARAM row is taken (R180): its value stands behind the identifier in the payload, and its length
is its owner's to check. -/
def takeParam (tag : Byte) (value : List Byte) (owner : Request → List Byte → State → State) (s : State) :
    State :=
  takeRequest kindSetParam tag value none owner s

/-- A SET_PARAM of one byte that is stored as a number: a value of another length is refused (R186). -/
def setByte (r : Request) (id : Byte) (value : List Byte) (applied : Nat → Nat) (store : Nat → State → State)
    (s : State) : State :=
  match value with
  | [b] => answerParam r id (be8 (applied b.toNat)) (store (applied b.toNat) s)
  | _ => answer r .badLength [] s

/-! ## Sensing and stroke forming (R2, R3) -/

/-- A new up level is stored, and the down levels that fall below it plus 16 are raised (R3). -/
def storeUpLevel (n : Nat) (s : State) : State :=
  (s.mapParams fun p => { p with upLevel := n }).mapKeys fun k =>
    { k with channels := k.channels.map fun c => { c with downLevel := max c.downLevel (n + 16) } }

/-- SET_UP_LEVEL at its owner (R3). -/
def askSetUpLevel (r : Request) (value : List Byte) (s : State) : State :=
  setByte r 0x01 value (clamp 8 231) storeUpLevel s

/-- SET_UP_LEVEL taken (R180). -/
def requestSetUpLevel (tag : Byte) (value : List Byte) (s : State) : State := takeParam tag value askSetUpLevel s

/-- SET_UP_LEVEL (R3). -/
def execSetUpLevel (tag : Byte) (value : List Byte) (s : State) : Result := .next (requestSetUpLevel tag value s)

/-- SET_DEBOUNCE_TIME at its owner (R2). -/
def askSetDebounceTime (r : Request) (value : List Byte) (s : State) : State :=
  setByte r 0x02 value (clamp 1 15) (fun n s => s.mapParams fun p => { p with debounce := n }) s

/-- SET_DEBOUNCE_TIME taken (R180). -/
def requestSetDebounceTime (tag : Byte) (value : List Byte) (s : State) : State :=
  takeParam tag value askSetDebounceTime s

/-- SET_DEBOUNCE_TIME (R2). -/
def execSetDebounceTime (tag : Byte) (value : List Byte) (s : State) : Result :=
  .next (requestSetDebounceTime tag value s)

/-- SET_STUCK_LIMIT at its owner (R2). -/
def askSetStuckLimit (r : Request) (value : List Byte) (s : State) : State :=
  if value.length ≠ 2 then answer r .badLength [] s
  else
    let n := clamp 250 5000 (beValue value)
    answerParam r 0x03 (be16 n) (s.mapParams fun p => { p with stuckLimit := n })

/-- SET_STUCK_LIMIT taken (R180). -/
def requestSetStuckLimit (tag : Byte) (value : List Byte) (s : State) : State :=
  takeParam tag value askSetStuckLimit s

/-- SET_STUCK_LIMIT (R2). -/
def execSetStuckLimit (tag : Byte) (value : List Byte) (s : State) : Result :=
  .next (requestSetStuckLimit tag value s)

/-- SET_RELEASE_GUARD at its owner (R2). -/
def askSetReleaseGuard (r : Request) (value : List Byte) (s : State) : State :=
  setByte r 0x04 value (clamp 0 40) (fun n s => s.mapParams fun p => { p with releaseGuard := n }) s

/-- SET_RELEASE_GUARD taken (R180). -/
def requestSetReleaseGuard (tag : Byte) (value : List Byte) (s : State) : State :=
  takeParam tag value askSetReleaseGuard s

/-- SET_RELEASE_GUARD (R2). -/
def execSetReleaseGuard (tag : Byte) (value : List Byte) (s : State) : Result :=
  .next (requestSetReleaseGuard tag value s)

/-- SET_STROKE_COPY at its owner (R2). -/
def askSetStrokeCopy (r : Request) (value : List Byte) (s : State) : State :=
  match value with
  | [b] =>
    match boolOf b with
    | some on => answerParam r 0x05 [boolCode on] (s.mapParams fun p => { p with strokeCopy := on })
    | none => answer r .badValue [] s
  | _ => answer r .badLength [] s

/-- SET_STROKE_COPY taken (R180). -/
def requestSetStrokeCopy (tag : Byte) (value : List Byte) (s : State) : State :=
  takeParam tag value askSetStrokeCopy s

/-- SET_STROKE_COPY (R2). -/
def execSetStrokeCopy (tag : Byte) (value : List Byte) (s : State) : Result :=
  .next (requestSetStrokeCopy tag value s)

/-! ## Translation (R74, R75, R79) -/

/-- SET_CORRECTION_DEPTH at its owner (R74): the chunks it closes may settle, and the blocks go on. -/
def askSetCorrectionDepth (r : Request) (value : List Byte) (s : State) : State :=
  runBlocks (setByte r 0x06 value (clamp 0 16) applyDepth s)

/-- SET_CORRECTION_DEPTH taken (R180). -/
def requestSetCorrectionDepth (tag : Byte) (value : List Byte) (s : State) : State :=
  takeParam tag value askSetCorrectionDepth s

/-- SET_CORRECTION_DEPTH (R74). -/
def execSetCorrectionDepth (tag : Byte) (value : List Byte) (s : State) : Result :=
  .next (requestSetCorrectionDepth tag value s)

/-- SET_RESOLVE_PAUSE at its owner (R79). -/
def askSetResolvePause (r : Request) (value : List Byte) (s : State) : State :=
  if value.length ≠ 2 then answer r .badLength [] s
  else
    let n := appliedPause (beValue value)
    answerParam r 0x07 (be16 n) (s.mapParams fun p => { p with resolvePause := n })

/-- SET_RESOLVE_PAUSE taken (R180). -/
def requestSetResolvePause (tag : Byte) (value : List Byte) (s : State) : State :=
  takeParam tag value askSetResolvePause s

/-- SET_RESOLVE_PAUSE (R79). -/
def execSetResolvePause (tag : Byte) (value : List Byte) (s : State) : Result :=
  .next (requestSetResolvePause tag value s)

/-- A mark table entry as SET_PARAM and GET_PARAM carry it: an unset entry has no flags and no text
(R75, R181). -/
def markValue (number : Byte) : Option MarkEntry → List Byte
  | none => [number, 0, 0, 0]
  | some m => [number, 1, m.flags] ++ be8 m.text.length ++ m.text

/-- A mark entry's text and flags are allowed (R75). -/
def markEntryOk (m : MarkEntry) : Bool := m.text.length ≤ 32 && m.text.all textByte && markFlagsValid m.flags

/-- A mark table entry is set or unset. -/
def storeMark (number : Nat) (m : Option MarkEntry) (s : State) : State :=
  s.mapParams fun p => { p with marks := p.marks.set number m }

/-- SET_MARK_TABLE_ENTRY at its owner (R75). -/
def askSetMarkTableEntry (r : Request) (value : List Byte) (s : State) : State :=
  let number := byteAt value 0
  let entry : MarkEntry := ⟨byteAt value 2, value.drop 4⟩
  if value.length < 4 ∨ value.length ≠ 4 + (byteAt value 3).toNat then answer r .badLength [] s
  else if 15 < number.toNat then answer r .badValue [] s
  else
    match boolOf (byteAt value 1) with
    | none => answer r .badValue [] s
    | some false => answerParam r 0x0C (markValue number none) (storeMark number.toNat none s)
    | some true =>
      if markEntryOk entry then
        answerParam r 0x0C (markValue number (some entry)) (storeMark number.toNat (some entry) s)
      else answer r .badValue [] s

/-- SET_MARK_TABLE_ENTRY taken (R180). -/
def requestSetMarkTableEntry (tag : Byte) (value : List Byte) (s : State) : State :=
  takeParam tag value askSetMarkTableEntry s

/-- SET_MARK_TABLE_ENTRY (R75). -/
def execSetMarkTableEntry (tag : Byte) (value : List Byte) (s : State) : Result :=
  .next (requestSetMarkTableEntry tag value s)

/-! ## Link parameters (R183, R184) -/

/-- SET_TRIGGER_LEVEL at its owner (R183): ATTN is tested at once. -/
def askSetTriggerLevel (r : Request) (value : List Byte) (s : State) : State :=
  match value with
  | [b] =>
    if triggerLevel b.toNat then
      answerParam r 0x08 [b] (testAttn (s.mapParams fun p => { p with trigger := b.toNat }))
    else answer r .badValue [] s
  | _ => answer r .badLength [] s

/-- SET_TRIGGER_LEVEL taken (R180). -/
def requestSetTriggerLevel (tag : Byte) (value : List Byte) (s : State) : State :=
  takeParam tag value askSetTriggerLevel s

/-- SET_TRIGGER_LEVEL (R183). -/
def execSetTriggerLevel (tag : Byte) (value : List Byte) (s : State) : Result :=
  .next (requestSetTriggerLevel tag value s)

/-- SET_GATHER_TIME at its owner (R183): ATTN is tested at once. -/
def askSetGatherTime (r : Request) (value : List Byte) (s : State) : State :=
  setByte r 0x09 value (clamp 1 100)
    (fun n s => testAttn (s.mapParams fun p => { p with gather := n })) s

/-- SET_GATHER_TIME taken (R180). -/
def requestSetGatherTime (tag : Byte) (value : List Byte) (s : State) : State :=
  takeParam tag value askSetGatherTime s

/-- SET_GATHER_TIME (R183). -/
def execSetGatherTime (tag : Byte) (value : List Byte) (s : State) : Result :=
  .next (requestSetGatherTime tag value s)

/-- The pending conditions of a list that a change of mask unmasks are notified, if they are not
(R184). DESIGN CHOICE (log 51): in the order of the list, which is that of priority. -/
def notifyUnmasked (old new : Byte) (cs : List Condition) (s : State) : State :=
  cs.foldl (fun s c =>
    if hasFlag s.link.conditionsPending c.bit && hasFlag old c.bit && !hasFlag new c.bit then
      notifyCondition c s
    else s) s

/-- SET_REPORT_MASK at its owner (R184, R186). -/
def askSetReportMask (r : Request) (value : List Byte) (s : State) : State :=
  match value with
  | [b] =>
    if hasFlag b 0x80 then answer r .badValue [] s
    else
      answerParam r 0x0D [b] (notifyUnmasked s.params.reportMask b allConditions
        (s.mapParams fun p => { p with reportMask := b }))
  | _ => answer r .badLength [] s

/-- SET_REPORT_MASK taken (R180). -/
def requestSetReportMask (tag : Byte) (value : List Byte) (s : State) : State :=
  takeParam tag value askSetReportMask s

/-- SET_REPORT_MASK (R184). -/
def execSetReportMask (tag : Byte) (value : List Byte) (s : State) : Result :=
  .next (requestSetReportMask tag value s)

/-! ## Journal parameters (R136, R147) -/

/-- A journal region shares a sector with a layer's region (R136). -/
def regionTaken (d : Dict) (base count : Nat) : Bool :=
  allLayers.any fun i => regionsMeet base count (d.layer i).base (d.layer i).count

/-- A journal region that passes its checks is stored, and the recovery scan begins (R136). -/
def storeRegion (tag : Byte) (base count : Nat) (s : State) : State :=
  beginScan [.region tag] (s.mapParams fun p => { p with journalBase := base, journalCount := count })

/-- SET_JOURNAL_REGION (R136): the job controller's BUSY comes before it reaches its owner (R176), which checks
the length first (log 35). -/
def askSetJournalRegion (r : Request) (value : List Byte) (s : State) : State :=
  let base := fieldAt value 0 2
  let count := fieldAt value 2 2
  if s.job.pendingAny then answer r .busy [] s
  else if value.length ≠ 4 then answer r .badLength [] s
  else if s.journal.scan.isSome then answer r .busy [] s
  else if s.job.running then answer r .state [] s
  else if !journalRegionOk base count then answer r .badValue [] s
  else if regionTaken s.dict base count then answer r .protected_ [] s
  else runBlocks (storeRegion r.tag base count s)

/-- SET_JOURNAL_REGION taken (R180). -/
def requestSetJournalRegion (tag : Byte) (value : List Byte) (s : State) : State :=
  takeParam tag value askSetJournalRegion s

/-- SET_JOURNAL_REGION (R136). -/
def execSetJournalRegion (tag : Byte) (value : List Byte) (s : State) : Result :=
  .next (requestSetJournalRegion tag value s)

/-- SET_LOW_THRESHOLD at its owner (R147): the threshold is tested at once. -/
def askSetLowThreshold (r : Request) (value : List Byte) (s : State) : State :=
  setByte r 0x0B value (clamp 1 64)
    (fun n s => testJournalLow (s.mapParams fun p => { p with lowThreshold := n })) s

/-- SET_LOW_THRESHOLD taken (R180). -/
def requestSetLowThreshold (tag : Byte) (value : List Byte) (s : State) : State :=
  takeParam tag value askSetLowThreshold s

/-- SET_LOW_THRESHOLD (R147). -/
def execSetLowThreshold (tag : Byte) (value : List Byte) (s : State) : Result :=
  .next (requestSetLowThreshold tag value s)

/-! ## Unknown identifiers and GET_PARAM (R186) -/

/-- SET_PARAM with no identifier, or with an unknown one (R186). -/
def askSetParamUnknown (r : Request) (payload : List Byte) (s : State) : State :=
  answer r (if payload.isEmpty then .badLength else .badValue) [] s

/-- SET_PARAM_UNKNOWN_IDENTIFIER taken (R180). -/
def requestSetParamUnknownIdentifier (tag : Byte) (payload : List Byte) (s : State) : State :=
  takeParam tag payload askSetParamUnknown s

/-- SET_PARAM_UNKNOWN_IDENTIFIER (R186). -/
def execSetParamUnknownIdentifier (tag : Byte) (payload : List Byte) (s : State) : Result :=
  .next (requestSetParamUnknownIdentifier tag payload s)

/-- The value in force for an identifier other than the mark table's (R186). -/
def paramValue (p : Params) (id : Nat) : Option (List Byte) :=
  match id with
  | 1 => some (be8 p.upLevel)
  | 2 => some (be8 p.debounce)
  | 3 => some (be16 p.stuckLimit)
  | 4 => some (be8 p.releaseGuard)
  | 5 => some [boolCode p.strokeCopy]
  | 6 => some (be8 p.depth)
  | 7 => some (be16 p.resolvePause)
  | 8 => some (be8 p.trigger)
  | 9 => some (be8 p.gather)
  | 10 => some (be16 p.journalBase ++ be16 p.journalCount)
  | 11 => some (be8 p.lowThreshold)
  | 13 => some [p.reportMask]
  | _ => none

/-- GET_PARAM at its owner (R186). -/
def askGetParam (r : Request) (payload : List Byte) (s : State) : State :=
  let id := byteAt payload 0
  let number := byteAt payload 1
  if id = 0x0C then
    if 15 < number.toNat then answer r .badValue [] s
    else answerParam r id (markValue number (s.params.mark number.toNat)) s
  else
    match paramValue s.params id.toNat with
    | some value => answerParam r id value s
    | none => answer r .badValue [] s

/-- GET_PARAM taken (R180). -/
def requestGetParam (tag : Byte) (payload : List Byte) (s : State) : State :=
  takeRequest kindGetParam tag payload (some 2) askGetParam s

/-- GET_PARAM (R186). -/
def execGetParam (tag : Byte) (payload : List Byte) (s : State) : Result :=
  .next (requestGetParam tag payload s)

/-! ## STORE_SETTINGS (R188) -/

/-- STORE_SETTINGS at its owner (R188, R176): the record is built as the part stands in this step. -/
def askStoreSettings (r : Request) (_ : List Byte) (s : State) : State :=
  if s.job.pendingAny then answer r .busy [] s
  else if s.journal.scan.isSome then answer r .busy [] s
  else if s.job.running then answer r .state [] s
  else runBlocks (pushItem (.storeSettings r.tag (settingsRecord s) 0 true) s)

/-- STORE_SETTINGS taken (R180). -/
def requestStoreSettings (tag : Byte) (payload : List Byte) (s : State) : State :=
  takeRequest kindStoreSettings tag payload (some 0) askStoreSettings s

/-- STORE_SETTINGS (R188). -/
def execStoreSettings (tag : Byte) (payload : List Byte) (s : State) : Result :=
  .next (requestStoreSettings tag payload s)

end Sys2Proof.Machine
end

