-- ==== Sys2Proof/Machine/FrameCmds.lean ====
section
/-! DEFINITION. The receive framer, byte by byte (R178), and the taking of a frame it hands on (R180). -/

namespace Sys2Proof.Machine

/-- A SET_PARAM frame is taken by its identifier (R186). -/
def takeSetParam (tag : Byte) (payload : List Byte) (s : State) : State :=
  match payload with
  | [] => requestSetParamUnknownIdentifier tag [] s
  | id :: value =>
    match id.toNat with
    | 1 => requestSetUpLevel tag value s
    | 2 => requestSetDebounceTime tag value s
    | 3 => requestSetStuckLimit tag value s
    | 4 => requestSetReleaseGuard tag value s
    | 5 => requestSetStrokeCopy tag value s
    | 6 => requestSetCorrectionDepth tag value s
    | 7 => requestSetResolvePause tag value s
    | 8 => requestSetTriggerLevel tag value s
    | 9 => requestSetGatherTime tag value s
    | 10 => requestSetJournalRegion tag value s
    | 11 => requestSetLowThreshold tag value s
    | 12 => requestSetMarkTableEntry tag value s
    | 13 => requestSetReportMask tag value s
    | _ => requestSetParamUnknownIdentifier tag payload s

/-- A frame whose check matches is taken by its KIND (R180). -/
def takeFrameOf (kind tag : Byte) (payload : List Byte) (s : State) : State :=
  match kind.toNat with
  | 0x01 => requestIdentify tag payload s
  | 0x02 => requestStatus tag payload s
  | 0x03 => takeSetParam tag payload s
  | 0x04 => requestGetParam tag payload s
  | 0x05 => requestChannelSet tag payload s
  | 0x06 => requestChannelQuery tag payload s
  | 0x07 => requestFaultClear tag payload s
  | 0x08 => requestLayerSet tag payload s
  | 0x09 => requestLayerQuery tag payload s
  | 0x0A => requestStoreSettings tag payload s
  | 0x0B => requestDefine tag payload s
  | 0x0C => requestUndefine tag payload s
  | 0x0D => requestOverlayClear tag payload s
  | 0x0E => requestOverlayQuery tag payload s
  | 0x0F => requestProfileSet tag payload s
  | 0x10 => requestPortSet tag payload s
  | 0x11 => requestPortQuery tag payload s
  | 0x12 => requestJobOpen tag payload s
  | 0x13 => requestJobClose tag payload s
  | 0x14 => requestJobAbort tag payload s
  | 0x15 => requestStrike tag payload s
  | 0x16 => requestJournalSeek tag payload s
  | 0x17 => requestJournalRead tag payload s
  | 0x18 => requestJournalErase tag payload s
  | 0x19 => requestImageRead tag payload s
  | 0x1A => requestImageWrite tag payload s
  | 0x1B => requestImageErase tag payload s
  | 0x1C => requestConditionQuery tag payload s
  | 0x1D => requestConditionClear tag payload s
  | 0x1E => requestMark tag payload s
  | _ => takeBadKind kind tag s

/-- What the framer does with the bytes taken after A6h, the newest included (R178): a LENGTH above 240
ends the frame, and the second check byte ends it too. -/
def frameTaken (taken : List Byte) (s : State) : State :=
  let length := (byteAt taken 0).toNat
  if Config.framePayload < length then countLinkFault (endFrame s)
  else if taken.length < length + 5 then s.mapLink fun l => { l with framer := .inFrame taken }
  else
    let body := taken.take (length + 3)
    if crcBytes body = taken.drop (length + 3) then
      takeFrameOf (byteAt taken 1) (byteAt taken 2) (body.drop 3) s
    else countLinkFault (endFrame s)

/-- FRAME_BYTE_RECEIVED (R178). -/
def execFrameByteReceived (b : Byte) (s : State) : Result :=
  match s.link.framer with
  | .hunting => if b = 0xA6 then .next (s.mapLink fun l => { l with framer := .inFrame [] }) else .next s
  | .inFrame taken => .next (frameTaken (taken ++ [b]) s)

end Sys2Proof.Machine
end

