-- ==== Sys2Proof/Machine/Dispatch.lean ====
section
/-! DEFINITION. The meaning of every command: one arm per row of spec/opcode_table.json. -/

namespace Sys2Proof.Machine

def exec (i : Instr) (s : State) : Host.Outcome State Fault Refusal :=
  match i with
  | .startUp => Sys2Proof.Machine.execStartUp s
  | .startUpDeviceReady => Sys2Proof.Machine.execStartUpDeviceReady s
  | .startUpWaitTimeout => Sys2Proof.Machine.execStartUpWaitTimeout s
  | .evaluation levels => Sys2Proof.Machine.execEvaluation levels s
  | .debounceHeld ch levels => Sys2Proof.Machine.execDebounceHeld ch levels s
  | .stuckLimitReached ch levels => Sys2Proof.Machine.execStuckLimitReached ch levels s
  | .releaseGuardExpiry => Sys2Proof.Machine.execReleaseGuardExpiry s
  | .afrmEdge => Sys2Proof.Machine.execAfrmEdge s
  | .forcedResolutionExpiry => Sys2Proof.Machine.execForcedResolutionExpiry s
  | .lineSenseSample lines => Sys2Proof.Machine.execLineSenseSample lines s
  | .lineGained port lines => Sys2Proof.Machine.execLineGained port lines s
  | .lineLost port lines => Sys2Proof.Machine.execLineLost port lines s
  | .pacingExpiry => Sys2Proof.Machine.execPacingExpiry s
  | .frameCompletion port => Sys2Proof.Machine.execFrameCompletion port s
  | .readyAnswered => Sys2Proof.Machine.execReadyAnswered s
  | .transferEnd => Sys2Proof.Machine.execTransferEnd s
  | .readComplete flips => Sys2Proof.Machine.execReadComplete flips s
  | .programComplete => Sys2Proof.Machine.execProgramComplete s
  | .eraseComplete => Sys2Proof.Machine.execEraseComplete s
  | .readyTimeout => Sys2Proof.Machine.execReadyTimeout s
  | .completionTimeout => Sys2Proof.Machine.execCompletionTimeout s
  | .frameDiscarded => Sys2Proof.Machine.execFrameDiscarded s
  | .requestDiscarded tag => Sys2Proof.Machine.execRequestDiscarded tag s
  | .badKindRequest kind tag => Sys2Proof.Machine.execBadKindRequest kind tag s
  | .linkResync => Sys2Proof.Machine.execLinkResync s
  | .messageDeparture => Sys2Proof.Machine.execMessageDeparture s
  | .gatherTimeExpiry => Sys2Proof.Machine.execGatherTimeExpiry s
  | .identify tag payload => Sys2Proof.Machine.execIdentify tag payload s
  | .status tag payload => Sys2Proof.Machine.execStatus tag payload s
  | .setUpLevel tag value => Sys2Proof.Machine.execSetUpLevel tag value s
  | .setDebounceTime tag value => Sys2Proof.Machine.execSetDebounceTime tag value s
  | .setStuckLimit tag value => Sys2Proof.Machine.execSetStuckLimit tag value s
  | .setReleaseGuard tag value => Sys2Proof.Machine.execSetReleaseGuard tag value s
  | .setStrokeCopy tag value => Sys2Proof.Machine.execSetStrokeCopy tag value s
  | .setCorrectionDepth tag value => Sys2Proof.Machine.execSetCorrectionDepth tag value s
  | .setResolvePause tag value => Sys2Proof.Machine.execSetResolvePause tag value s
  | .setTriggerLevel tag value => Sys2Proof.Machine.execSetTriggerLevel tag value s
  | .setGatherTime tag value => Sys2Proof.Machine.execSetGatherTime tag value s
  | .setJournalRegion tag value => Sys2Proof.Machine.execSetJournalRegion tag value s
  | .setLowThreshold tag value => Sys2Proof.Machine.execSetLowThreshold tag value s
  | .setMarkTableEntry tag value => Sys2Proof.Machine.execSetMarkTableEntry tag value s
  | .setReportMask tag value => Sys2Proof.Machine.execSetReportMask tag value s
  | .setParamUnknownIdentifier tag payload => Sys2Proof.Machine.execSetParamUnknownIdentifier tag payload s
  | .getParam tag payload => Sys2Proof.Machine.execGetParam tag payload s
  | .channelSet tag payload => Sys2Proof.Machine.execChannelSet tag payload s
  | .channelQuery tag payload => Sys2Proof.Machine.execChannelQuery tag payload s
  | .faultClear tag payload => Sys2Proof.Machine.execFaultClear tag payload s
  | .layerSet tag payload => Sys2Proof.Machine.execLayerSet tag payload s
  | .layerQuery tag payload => Sys2Proof.Machine.execLayerQuery tag payload s
  | .storeSettings tag payload => Sys2Proof.Machine.execStoreSettings tag payload s
  | .define tag payload => Sys2Proof.Machine.execDefine tag payload s
  | .undefine tag payload => Sys2Proof.Machine.execUndefine tag payload s
  | .overlayClear tag payload => Sys2Proof.Machine.execOverlayClear tag payload s
  | .overlayQuery tag payload => Sys2Proof.Machine.execOverlayQuery tag payload s
  | .profileSet tag payload => Sys2Proof.Machine.execProfileSet tag payload s
  | .portSet tag payload => Sys2Proof.Machine.execPortSet tag payload s
  | .portQuery tag payload => Sys2Proof.Machine.execPortQuery tag payload s
  | .jobOpen tag payload => Sys2Proof.Machine.execJobOpen tag payload s
  | .jobClose tag payload => Sys2Proof.Machine.execJobClose tag payload s
  | .jobAbort tag payload => Sys2Proof.Machine.execJobAbort tag payload s
  | .strike tag payload => Sys2Proof.Machine.execStrike tag payload s
  | .mark tag payload => Sys2Proof.Machine.execMark tag payload s
  | .journalSeek tag payload => Sys2Proof.Machine.execJournalSeek tag payload s
  | .journalRead tag payload => Sys2Proof.Machine.execJournalRead tag payload s
  | .journalErase tag payload => Sys2Proof.Machine.execJournalErase tag payload s
  | .imageRead tag payload => Sys2Proof.Machine.execImageRead tag payload s
  | .imageWrite tag payload => Sys2Proof.Machine.execImageWrite tag payload s
  | .imageErase tag payload => Sys2Proof.Machine.execImageErase tag payload s
  | .conditionQuery tag payload => Sys2Proof.Machine.execConditionQuery tag payload s
  | .conditionClear tag payload => Sys2Proof.Machine.execConditionClear tag payload s
  | .frameByteReceived b => Sys2Proof.Machine.execFrameByteReceived b s
  | .byteClockedOut => Sys2Proof.Machine.execByteClockedOut s

end Sys2Proof.Machine
end

