-- ==== Sys2Proof/Machine/Step.lean ====
section
/-! DEFINITION. One step of the part: the command at the front of the queue, or one idle millisecond. -/

namespace Sys2Proof.Machine

/-- One millisecond passes (log 2): the job clock advances and wraps (R19). -/
def State.tick (s : State) : State :=
  { s with now := s.now + 1, former := { s.former with jobClock := s.former.jobClock + 1 } }

/-- One step (log 1): the command at the front of the queue is carried out; with none, a millisecond
passes. -/
def step (s : State) : Host.Outcome State Fault Refusal :=
  match s.pending with
  | [] => .next s.tick
  | c :: rest => exec c { s with pending := rest }

/-- The state with the command that a word spells put at the front of the queue; unchanged where it spells
none. -/
def State.withFetchWord (s : State) (nbits w : Nat) : State :=
  match Sys2Proof.decodeTableWord nbits w with
  | some c => { s with pending := c :: s.pending }
  | none => s

end Sys2Proof.Machine
end

