-- ==== Sys2Proof/Safety.lean ====
section
/-! DEFINITION. The terms that claims are stated in: what holds of every good state, what a command leaves
alone, and the situations in which a command's effect is stated. -/

namespace Sys2Proof.Machine

/-! ## What holds of every good state -/

/-- The external memory is in its canonical form. -/
abbrev State.memoryOk (s : State) : Prop := Mem.wf s.device.mem = true

/-- Each channel's down level is at least the up level plus 16 (R3). -/
abbrev State.levelsOk (s : State) : Prop := ∀ c ∈ s.keys.channels, s.params.upLevel + 16 ≤ c.downLevel

/-- The overlay holds at most 512 entries, and no two of them have the same stroke sequence (R52). -/
abbrev State.overlayOk (s : State) : Prop :=
  s.dict.overlay.length ≤ 512 ∧ (s.dict.overlay.map (·.sequence)).Nodup

/-- Every parameter is in its range (R186 and the rules it names). -/
abbrev Params.inRange (p : Params) : Prop :=
  (8 ≤ p.upLevel ∧ p.upLevel ≤ 231) ∧ (1 ≤ p.debounce ∧ p.debounce ≤ 15) ∧
    (250 ≤ p.stuckLimit ∧ p.stuckLimit ≤ 5000) ∧ p.releaseGuard ≤ 40 ∧ p.depth ≤ 16 ∧
    (p.resolvePause = 0 ∨ (100 ≤ p.resolvePause ∧ p.resolvePause ≤ 10000)) ∧ triggerLevel p.trigger = true ∧
    (1 ≤ p.gather ∧ p.gather ≤ 100) ∧ journalRegionOk p.journalBase p.journalCount = true ∧
    (1 ≤ p.lowThreshold ∧ p.lowThreshold ≤ 64) ∧ hasFlag p.reportMask 0x80 = false ∧ p.marks.length = 16 ∧
    ∀ e ∈ p.marks, e.all (fun m => markFlagsValid m.flags && m.text.length ≤ 32 && m.text.all textByte) = true

/-- Everything that the settings record carries is in its range (R188, R189). -/
abbrev State.settingsInRange (s : State) : Prop :=
  s.params.inRange ∧ s.levelsOk ∧ s.keys.channels.length = 23 ∧ (∀ c ∈ s.keys.channels, c.downLevel ≤ 247) ∧
    (∀ i ∈ [ProfileId.a, .b, .c], 10 ≤ (s.feeds.profile i).rate ∧ (s.feeds.profile i).rate ≤ 960 ∧
      1 ≤ (s.feeds.profile i).burst ∧ (s.feeds.profile i).burst ≤ 64 ∧
      (s.feeds.profile i).refreshDepth ≤ 2048) ∧
    ∀ i ∈ allLayers, (s.dict.layer i).base < 65536 ∧
      layerRegionOk (s.dict.layer i).base (s.dict.layer i).count = true ∧
      layerRegionFree s.params (s.dict.layer i).base (s.dict.layer i).count = true ∧
      ((s.dict.layer i).count = 0 → (s.dict.layer i).enable = false)

/-! ## What a command leaves alone -/

/-- Every byte of the external memory reads as before. -/
def State.sameMemory (s t : State) : Prop := ∀ a, Mem.read1 t.device.mem a = Mem.read1 s.device.mem a

/-- Every byte of the external memory outside n bytes from an address on reads as before. -/
def State.sameMemoryOutside (s t : State) (addr n : Nat) : Prop :=
  ∀ a, a < addr ∨ addr + n ≤ a → Mem.read1 t.device.mem a = Mem.read1 s.device.mem a

/-! ## Requests (R180) -/

/-- The part takes a request with this tag rather than discarding it. -/
abbrev State.takes (s : State) (tag : Byte) : Prop := s.link.outstanding < 8 ∧ tag ≠ 0

/-- The part takes a request with this tag and hands it to its owner. -/
abbrev State.serves (s : State) (tag : Byte) : Prop := s.takes tag ∧ s.job.state ≠ .booting

/-- The link controller with a request taken: its frame has ended and it is outstanding. -/
def Link.withTaken (l : Link) : Link := { l with framer := .hunting, outstanding := l.outstanding + 1 }

/-- The link controller with a reply queued behind everything else, and ATTN asserted for it. -/
def Link.withReply (l : Link) (now : Nat) (kind tag : Byte) (payload : List Byte) : Link :=
  { l with queue := l.queue ++ [⟨true, frameBytes kind tag payload, 0, now⟩], attn := true }

/-- The link controller with a request taken and answered in the same step. -/
def State.answered (s : State) (kind tag : Byte) (payload : List Byte) : Link :=
  s.link.withTaken.withReply s.now kind tag payload

/-- The frame that a request's row stands for: its KIND, its tag and its whole payload (R180, R181). The
other rows stand for no frame. -/
def requestOf : Instr → Option (Byte × Byte × List Byte)
  | .startUp => none
  | .startUpDeviceReady => none
  | .startUpWaitTimeout => none
  | .evaluation _ => none
  | .debounceHeld _ _ => none
  | .stuckLimitReached _ _ => none
  | .releaseGuardExpiry => none
  | .afrmEdge => none
  | .forcedResolutionExpiry => none
  | .lineSenseSample _ => none
  | .lineGained _ _ => none
  | .lineLost _ _ => none
  | .pacingExpiry => none
  | .frameCompletion _ => none
  | .readyAnswered => none
  | .transferEnd => none
  | .readComplete _ => none
  | .programComplete => none
  | .eraseComplete => none
  | .readyTimeout => none
  | .completionTimeout => none
  | .frameDiscarded => none
  | .requestDiscarded _ => none
  | .badKindRequest _ _ => none
  | .linkResync => none
  | .messageDeparture => none
  | .gatherTimeExpiry => none
  | .identify tag payload => some (kindIdentify, tag, payload)
  | .status tag payload => some (kindStatus, tag, payload)
  | .setUpLevel tag value => some (kindSetParam, tag, 0x01 :: value)
  | .setDebounceTime tag value => some (kindSetParam, tag, 0x02 :: value)
  | .setStuckLimit tag value => some (kindSetParam, tag, 0x03 :: value)
  | .setReleaseGuard tag value => some (kindSetParam, tag, 0x04 :: value)
  | .setStrokeCopy tag value => some (kindSetParam, tag, 0x05 :: value)
  | .setCorrectionDepth tag value => some (kindSetParam, tag, 0x06 :: value)
  | .setResolvePause tag value => some (kindSetParam, tag, 0x07 :: value)
  | .setTriggerLevel tag value => some (kindSetParam, tag, 0x08 :: value)
  | .setGatherTime tag value => some (kindSetParam, tag, 0x09 :: value)
  | .setJournalRegion tag value => some (kindSetParam, tag, 0x0A :: value)
  | .setLowThreshold tag value => some (kindSetParam, tag, 0x0B :: value)
  | .setMarkTableEntry tag value => some (kindSetParam, tag, 0x0C :: value)
  | .setReportMask tag value => some (kindSetParam, tag, 0x0D :: value)
  | .setParamUnknownIdentifier tag payload => some (kindSetParam, tag, payload)
  | .getParam tag payload => some (kindGetParam, tag, payload)
  | .channelSet tag payload => some (kindChannelSet, tag, payload)
  | .channelQuery tag payload => some (kindChannelQuery, tag, payload)
  | .faultClear tag payload => some (kindFaultClear, tag, payload)
  | .layerSet tag payload => some (kindLayerSet, tag, payload)
  | .layerQuery tag payload => some (kindLayerQuery, tag, payload)
  | .storeSettings tag payload => some (kindStoreSettings, tag, payload)
  | .define tag payload => some (kindDefine, tag, payload)
  | .undefine tag payload => some (kindUndefine, tag, payload)
  | .overlayClear tag payload => some (kindOverlayClear, tag, payload)
  | .overlayQuery tag payload => some (kindOverlayQuery, tag, payload)
  | .profileSet tag payload => some (kindProfileSet, tag, payload)
  | .portSet tag payload => some (kindPortSet, tag, payload)
  | .portQuery tag payload => some (kindPortQuery, tag, payload)
  | .jobOpen tag payload => some (kindJobOpen, tag, payload)
  | .jobClose tag payload => some (kindJobClose, tag, payload)
  | .jobAbort tag payload => some (kindJobAbort, tag, payload)
  | .strike tag payload => some (kindStrike, tag, payload)
  | .mark tag payload => some (kindMark, tag, payload)
  | .journalSeek tag payload => some (kindJournalSeek, tag, payload)
  | .journalRead tag payload => some (kindJournalRead, tag, payload)
  | .journalErase tag payload => some (kindJournalErase, tag, payload)
  | .imageRead tag payload => some (kindImageRead, tag, payload)
  | .imageWrite tag payload => some (kindImageWrite, tag, payload)
  | .imageErase tag payload => some (kindImageErase, tag, payload)
  | .conditionQuery tag payload => some (kindConditionQuery, tag, payload)
  | .conditionClear tag payload => some (kindConditionClear, tag, payload)
  | .frameByteReceived _ => none
  | .byteClockedOut => none

/-- The payload lengths of the requests whose payload has one length (R181). -/
def fixedLengths : List (Byte × Nat) :=
  [(kindIdentify, 0), (kindStatus, 0), (kindGetParam, 2), (kindChannelSet, 3), (kindChannelQuery, 0),
    (kindFaultClear, 4), (kindLayerSet, 6), (kindLayerQuery, 0), (kindStoreSettings, 0),
    (kindOverlayClear, 0), (kindProfileSet, 8), (kindPortSet, 4), (kindPortQuery, 0), (kindJobOpen, 3),
    (kindJobClose, 0), (kindJobAbort, 0), (kindStrike, 0), (kindJournalSeek, 6), (kindJournalRead, 1),
    (kindJournalErase, 4), (kindImageRead, 4), (kindImageErase, 2), (kindConditionQuery, 0),
    (kindConditionClear, 1), (kindMark, 1)]

/-- The part's state with a request taken and answered, and nothing else changed. -/
def State.answering (s : State) (kind tag : Byte) (payload : List Byte) : State :=
  { s with link := s.answered kind tag payload }

/-! ## Situations -/

/-- No block has work that it can do at once: what every step leaves. -/
abbrev State.quiet (s : State) : Prop := internalStep s = none

/-- An item of the link-side queue is being served, so a further item waits behind it. -/
abbrev State.itemInHand (s : State) : Prop := s.port.items ≠ [] ∧ s.port.headBegun = true

/-- The memory port is IDLE with nothing in flight, and nothing is asked of it. -/
abbrev State.portFree (s : State) : Prop :=
  s.port.state = .idle ∧ s.port.inFlight = none ∧ s.port.items = [] ∧ s.port.headBegun = false ∧
    s.port.journalRequest = none ∧ s.port.translationRequest = none ∧ s.port.linkRequest = none

/-- Neither consumer of the ring can go on to a further record at once. -/
abbrev State.consumersBusy (s : State) : Prop := s.engine.state ≠ .waiting ∧ s.journal.op ≠ .waiting

/-- The port with one item in hand and its first operation in flight. -/
def MemPort.serving (p : MemPort) (i : LinkItem) (op : MemOp) (now : Nat) : MemPort :=
  { p with
    state := .busy, items := [i], headBegun := true
    inFlight := some ⟨op, .link, .readyWait, now + 5, false⟩ }

end Sys2Proof.Machine
end

