-- ==== Sys2Proof/WellFormed.lean ====
section
/-! DEFINITION. Which commands can be written down for the part: the operand checks that the types do
not make already. -/

namespace Sys2Proof

/-- A frame carries at most 240 payload bytes (R178). -/
def payloadFits (payload : List Byte) : Bool := payload.length ≤ Config.framePayload

/-- A SET_PARAM value stands behind its identifier byte in the payload (R181). -/
def valueFits (value : List Byte) : Bool := value.length < Config.framePayload

/-- Only ports 1 to 4 have a line (R115). -/
def viewerPort (p : PortId) : Bool := p ≠ .p0

/-- The identifiers of R186 that have a row of their own. -/
def knownIdentifier (id : Byte) : Bool := 1 ≤ id.toNat && id.toNat ≤ 13

/-- The request kinds of R180. -/
def requestKind (kind : Byte) : Bool := 1 ≤ kind.toNat && kind.toNat ≤ 30

/-- Well-formedness of a command. -/
def Instr.wellFormed : Instr → Bool
  | .startUp => true
  | .startUpDeviceReady => true
  | .startUpWaitTimeout => true
  | .evaluation _ => true
  | .debounceHeld _ _ => true
  | .stuckLimitReached _ _ => true
  | .releaseGuardExpiry => true
  | .afrmEdge => true
  | .forcedResolutionExpiry => true
  | .lineSenseSample _ => true
  | .lineGained p _ => viewerPort p
  | .lineLost p _ => viewerPort p
  | .pacingExpiry => true
  | .frameCompletion p => viewerPort p
  | .readyAnswered => true
  | .transferEnd => true
  | .readComplete flips => flips.length ≤ 256
  | .programComplete => true
  | .eraseComplete => true
  | .readyTimeout => true
  | .completionTimeout => true
  | .frameDiscarded => true
  | .requestDiscarded _ => true
  | .badKindRequest kind _ => !requestKind kind
  | .linkResync => true
  | .messageDeparture => true
  | .gatherTimeExpiry => true
  | .identify _ p => payloadFits p
  | .status _ p => payloadFits p
  | .setUpLevel _ v => valueFits v
  | .setDebounceTime _ v => valueFits v
  | .setStuckLimit _ v => valueFits v
  | .setReleaseGuard _ v => valueFits v
  | .setStrokeCopy _ v => valueFits v
  | .setCorrectionDepth _ v => valueFits v
  | .setResolvePause _ v => valueFits v
  | .setTriggerLevel _ v => valueFits v
  | .setGatherTime _ v => valueFits v
  | .setJournalRegion _ v => valueFits v
  | .setLowThreshold _ v => valueFits v
  | .setMarkTableEntry _ v => valueFits v
  | .setReportMask _ v => valueFits v
  | .setParamUnknownIdentifier _ p =>
      payloadFits p && !(match p with | [] => false | id :: _ => knownIdentifier id)
  | .getParam _ p => payloadFits p
  | .channelSet _ p => payloadFits p
  | .channelQuery _ p => payloadFits p
  | .faultClear _ p => payloadFits p
  | .layerSet _ p => payloadFits p
  | .layerQuery _ p => payloadFits p
  | .storeSettings _ p => payloadFits p
  | .define _ p => payloadFits p
  | .undefine _ p => payloadFits p
  | .overlayClear _ p => payloadFits p
  | .overlayQuery _ p => payloadFits p
  | .profileSet _ p => payloadFits p
  | .portSet _ p => payloadFits p
  | .portQuery _ p => payloadFits p
  | .jobOpen _ p => payloadFits p
  | .jobClose _ p => payloadFits p
  | .jobAbort _ p => payloadFits p
  | .strike _ p => payloadFits p
  | .mark _ p => payloadFits p
  | .journalSeek _ p => payloadFits p
  | .journalRead _ p => payloadFits p
  | .journalErase _ p => payloadFits p
  | .imageRead _ p => payloadFits p
  | .imageWrite _ p => payloadFits p
  | .imageErase _ p => payloadFits p
  | .conditionQuery _ p => payloadFits p
  | .conditionClear _ p => payloadFits p
  | .frameByteReceived _ => true
  | .byteClockedOut => true

end Sys2Proof
end

