-- ==== Sys2Proof/Certificates/Slice0/Obligations.lean ====
section
/-! DEFINITION. The statements for the provers. Each docstring names the rule it states, and says where a
clause is the model's own choice. -/

open Sys2Proof Sys2Proof.Machine

/-! ## The machine as a whole -/

/-- A step carries out the command at the front of the queue, with the queue's rest (the model's queue:
log 1); on an empty queue it passes one millisecond, in which the clock of the model and the job clock advance
by 1 and nothing else changes (log 2; the job clock's pace and wrap are R19's). -/
def Obligations.StepRunsTheFrontCommand : Prop :=
  (∀ (c : Instr) (rest : List Instr) (s : State), s.pending = c :: rest →
    step s = exec c { s with pending := rest }) ∧
  ∀ s : State, s.pending = [] →
    step s = .next { s with now := s.now + 1, former := { s.former with jobClock := s.former.jobClock + 1 } }

/-- Every command answers a next state in every state: none ever faults or is refused. It leaves the queue of
waiting commands and the clock of the model alone (logs 1, 2). That this holds of an event in a state where it
cannot occur too, and of the READY_ANSWERED of an operation outside the bounds of R160, is the model's choice
(logs 9, 37). -/
def Obligations.EveryCommandAnswersNext : Prop :=
  ∀ (c : Instr) (s : State), ∃ t, exec c s = .next t ∧ t.pending = s.pending ∧ t.now = s.now

/-- Reset leaves the values that the manual gives: the channel table (R1), the stroke former (section 1.5, R19),
the ring (R22), the layers and the overlay (R35, R52), the engine (R59), the stream (R103), the ports and the
profiles (R115, R116), the journal with its region of 1024 sectors (R137, R136), the memory port (R161, R163),
the job controller (R170), the link controller (R178, R182 to R184, R189) and the parameter store (R186). The
settings record replaces its items later in start-up (R189). The values that the manual does not give are left
out (logs 3, 58). -/
def Obligations.ResetLeavesTheStatedValues : Prop :=
  let s := State.reset
  s.keys.channels = List.replicate 23
    { enable := true, downLevel := 160, state := .up, latch := .noFault, lastLevel := 0, reading := .up
      runLength := 0, dwell := 0 } ∧
  (s.former.state = .idle ∧ s.former.chord = 0 ∧ s.former.guardDue = none ∧ s.former.jobClock = 0 ∧
    s.former.audioCount = 0 ∧ s.former.audioSeen = false) ∧
  s.ring =
    { entries := [], holding := none, nextSeq := 1, translationCursor := 1, journalCursor := 1, gap := 0
      lost := 0 } ∧
  (∀ i ∈ allLayers, s.dict.layer i =
    { base := 0, count := 0, enable := false, valid := false, checkPending := false, bucketBits := 8
      entryCount := 0, imageLength := 0, faultCount := 0 }) ∧
  s.dict.overlay = [] ∧ s.dict.lookup = none ∧
  s.engine =
    { state := .idle, window := [], cache := [], chunks := [], carry := ⟨false, false⟩, resolvedEnd := 0
      tail := [], timerDue := none, forceOwed := false, heldMark := none, closeMark := false
      reevaluationPending := false, reachBackPending := false, run := none } ∧
  s.stream =
    { length := 0, settled := 0, store := [], durableSeen := none, modeSeen := .idle
      unrecordedPoint := none } ∧
  s.feeds.profileA = { mode := .settled, rate := 120, burst := 8, hold := false, refreshDepth := 512 } ∧
  s.feeds.profileB = { mode := .live, rate := 240, burst := 16, hold := false, refreshDepth := 1024 } ∧
  s.feeds.profileC = { mode := .live, rate := 960, burst := 64, hold := false, refreshDepth := 2048 } ∧
  (s.feeds.port0.profile = .c ∧ ∀ i ∈ viewerPorts,
    (s.feeds.port i).profile = .a ∧ (s.feeds.port i).speed = .s38400 ∧ (s.feeds.port i).senseRun = 0 ∧
    (s.feeds.port i).lineFault = false ∧ (s.feeds.port i).frame = none) ∧
  (∀ i ∈ allPorts,
    (s.feeds.port i).enable = true ∧ (s.feeds.port i).state = .off ∧ (s.feeds.port i).base = 0 ∧
    (s.feeds.port i).displayed = 0 ∧ (s.feeds.port i).valid = 0 ∧ (s.feeds.port i).settledSent = 0 ∧
    (s.feeds.port i).credit = 0) ∧
  (s.journal.sectors = List.replicate 1024 ⟨.blank, none⟩ ∧ s.journal.highestSerial = 0 ∧
    s.journal.current = none ∧ s.journal.appendPoint = 1 ∧ s.journal.nextSector = none ∧
    s.journal.blankCount = 0 ∧ s.journal.mode = .idle ∧ s.journal.cause = .noCause ∧
    s.journal.memoryFailed = false ∧ s.journal.op = .waiting ∧ s.journal.durable = none ∧
    s.journal.consecutiveFailures = 0 ∧ s.journal.sectorFailures = 0 ∧ s.journal.amendments = [] ∧
    s.journal.amendmentsDropped = 0 ∧ s.journal.closePending = false ∧ s.journal.jobNumber = 0 ∧
    s.journal.unclosedJob = none) ∧
  (s.port.state = .starting ∧ s.port.inFlight = none ∧ s.port.deviceReady = false ∧ s.port.faultCount = 0 ∧
    s.port.journalRequest = none ∧ s.port.translationRequest = none ∧ s.port.linkRequest = none ∧
    s.port.items = []) ∧
  s.job =
    { state := .booting, number := 0, openPending := none, closePending := none, translationDrained := false
      abortPending := none, discarded := 0 } ∧
  (s.link.framer = .hunting ∧ s.link.queue = [] ∧ s.link.outstanding = 0 ∧ s.link.conditionsPending = 0 ∧
    s.link.notified = 0 ∧ s.link.notifyPending = 0 ∧ s.link.linkFaults = 0 ∧ s.link.noticesDropped = 0 ∧
    s.link.defaultsInUse = true ∧ s.link.attn = false) ∧
  s.params =
    { upLevel := 96, debounce := 4, stuckLimit := 2000, releaseGuard := 12, strokeCopy := false, depth := 4
      resolvePause := 1500, trigger := 4, gather := 10, journalBase := 3072, journalCount := 1024
      lowThreshold := 8, marks := List.replicate 16 none, reportMask := 0 } ∧
  s.boot = .readyWait

/-- Every step keeps the external memory in its canonical form. -/
def Obligations.EveryStepKeepsTheMemoryCanonical : Prop :=
  ∀ s t : State, s.memoryOk → step s = .next t → t.memoryOk

/-- The device changes its contents only as it answers ready, completes a PROGRAM or an ERASE, or has one cut
off: every other command leaves the external memory and the device as they are (R159, R161, R162). -/
def Obligations.OnlyDeviceCommandsChangeTheMemory : Prop :=
  ∀ (c : Instr) (s t : State),
    c ≠ .startUp → c ≠ .startUpDeviceReady → c ≠ .readyAnswered → c ≠ .programComplete →
    c ≠ .eraseComplete → c ≠ .completionTimeout →
    exec c s = .next t → t.device = s.device ∧ s.sameMemory t

/-- Outside start-up, its settings load and received bytes, only the evaluations, CHANNEL_SET, FAULT_CLEAR
and SET_UP_LEVEL change the channel table, only the SET_PARAM rows change the parameter store, and only DEFINE,
UNDEFINE and OVERLAY_CLEAR change the overlay (R1, R52, R186). -/
def Obligations.OnlyTheirCommandsChangeTheTables : Prop :=
  ∀ (c : Instr) (s t : State),
    c ≠ .startUp → (∀ got, s.port.items.head? ≠ some (.settingsLoad got)) →
    (∀ b, c ≠ .frameByteReceived b) → exec c s = .next t →
    ((∀ l, c ≠ .evaluation l) → (∀ i l, c ≠ .debounceHeld i l) → (∀ i l, c ≠ .stuckLimitReached i l) →
      (∀ g p, c ≠ .channelSet g p) → (∀ g p, c ≠ .faultClear g p) → (∀ g v, c ≠ .setUpLevel g v) →
        t.keys = s.keys) ∧
    ((∀ tag payload, requestOf c ≠ some (kindSetParam, tag, payload)) → t.params = s.params) ∧
    ((∀ g p, c ≠ .define g p) → (∀ g p, c ≠ .undefine g p) → (∀ g p, c ≠ .overlayClear g p) →
      t.dict.overlay = s.dict.overlay)

/-- Reset meets the invariants that every step keeps: the memory's canonical form (the model's form: log 4),
the down levels (R3), the overlay (R52) and the outstanding requests (R180). -/
def Obligations.ResetMeetsTheInvariants : Prop :=
  State.reset.memoryOk ∧ State.reset.levelsOk ∧ State.reset.overlayOk ∧ State.reset.link.outstanding ≤ 8

/-- Each channel's down level is at least the up level plus 16: every step keeps it so (R3). -/
def Obligations.EveryStepKeepsDownLevels : Prop :=
  ∀ s t : State, s.levelsOk → step s = .next t → t.levelsOk

/-- The overlay holds at most 512 entries, no two of one sequence: every step keeps it so (R52). -/
def Obligations.EveryStepKeepsTheOverlaySound : Prop :=
  ∀ s t : State, s.overlayOk → step s = .next t → t.overlayOk

/-- At most 8 requests are outstanding: every step keeps it so (R180). -/
def Obligations.EveryStepKeepsAtMostEightOutstanding : Prop :=
  ∀ s t : State, s.link.outstanding ≤ 8 → step s = .next t → t.link.outstanding ≤ 8

/-! ## Key sensing and stroke formation (chapter 1) -/

/-- One channel at an evaluation. Its reading, by the lines of R4: a level below 8 reads open, above 247 short;
within those, at or above the down level down, at or below the up level up; between the levels, the present
reading if it is up or down, and up if it is open or short. The level is stored as the last level. Its timers
(R5, with the ends of R1): the run length goes on from 1 at a new reading, the dwell from 0 at a new state,
and both stay at 65535. -/
def Obligations.EvaluationReadsEachChannel : Prop :=
  ∀ (p : Params) (c : Channel) (level : Byte),
    let d := evaluateChannel p c level
    d.lastLevel = level ∧
    (level.toNat < 8 → d.reading = .openCircuit) ∧
    (247 < level.toNat → d.reading = .shortCircuit) ∧
    (8 ≤ level.toNat → level.toNat ≤ 247 → c.downLevel ≤ level.toNat → d.reading = .down) ∧
    (8 ≤ level.toNat → level.toNat ≤ 247 → level.toNat < c.downLevel → level.toNat ≤ p.upLevel →
      d.reading = .up) ∧
    (8 ≤ level.toNat → level.toNat ≤ 247 → level.toNat < c.downLevel → p.upLevel < level.toNat →
      d.reading = if c.reading = .down then .down else .up) ∧
    (d.reading = c.reading → d.runLength = min (c.runLength + 1) 65535) ∧
    (d.reading ≠ c.reading → d.runLength = 1) ∧
    (d.state = c.state → d.dwell = min (c.dwell + 1) 65535) ∧
    (d.state ≠ c.state → d.dwell = 0)

/-- What an evaluation decides for a channel (R6 to R8): its new state and its latch, by the first line of R6's
table that applies, each line with the state and the latch it gives; where none applies, a DISABLED channel's
case included, both stay. The dwell read by the stuck limit's line counts this evaluation. -/
def Obligations.EvaluationDecisionsFollowTheTable : Prop :=
  ∀ (p : Params) (c : Channel) (level : Byte),
    let d := evaluateChannel p c level
    let held (r : Reading) : Bool := d.reading == r && decide (p.debounce ≤ d.runLength)
    let forming : Bool := c.state == .up || c.state == .down || c.state == .stuck
    let cleared : Bool := (c.state == .openCircuit || c.state == .shortCircuit) && c.latch == .noFault
    (d.state, d.latch) =
      if forming && held .openCircuit then (.openCircuit, .openCircuit)
      else if forming && held .shortCircuit then (.shortCircuit, .shortCircuit)
      else if c.state == .up && held .down then (.down, c.latch)
      else if c.state == .down && held .up then (.up, c.latch)
      else if c.state == .down && decide (p.stuckLimit ≤ min (c.dwell + 1) 65535) then (.stuck, .stuck)
      else if c.state == .stuck && held .up then (.up, c.latch)
      else if c.state == .openCircuit && held .shortCircuit then (.shortCircuit, .shortCircuit)
      else if c.state == .shortCircuit && held .openCircuit then (.openCircuit, .openCircuit)
      else if cleared && held .up then (.up, c.latch)
      else if cleared && held .down then (.down, c.latch)
      else (c.state, c.latch)

/-- EVALUATION takes every channel at its level and hands the result on (R4, R13). With no block at work it changes
the channel table, the stroke former and, exactly where a latch is set, the link controller, by one raise of
KEY_FAULT (R9): nothing else. With a release guard of 0 ms the stroke whose last key has come up closes within the
same event (R15): what follows is what RELEASE_GUARD_EXPIRY does in the state so reached. The model's deductions:
one raise for all the channels of an evaluation, a latch set to the value it holds counted as set (log 31), and
that sensing begins in the step in which the settings load of start-up ends, so that an evaluation before it
changes nothing (log 20). -/
def Obligations.EvaluationTakesEveryChannel : Prop :=
  ∀ (levels : Levels) (s : State), s.quiet →
    let taken (t : State) : Prop :=
      t = { s with keys := t.keys, former := t.former, link := t.link } ∧
      (∀ i : Fin 23, t.keys.channels[i.val]? =
        (s.keys.channels[i.val]?).map fun c => evaluateChannel s.params c levels[i]) ∧
      t.former = s.former.takeResult (t.keys.channels.map (·.state)) s.params.releaseGuard s.now ∧
      ((∀ i : Fin 23, ∀ c d, s.keys.channels[i.val]? = some c → t.keys.channels[i.val]? = some d →
          d.state ≠ c.state → d.state = .up ∨ d.state = .down) → t.link = s.link) ∧
      (∀ i : Fin 23, ∀ c d, s.keys.channels[i.val]? = some c → t.keys.channels[i.val]? = some d →
          d.state ≠ c.state → d.state ≠ .up → d.state ≠ .down → t.link = (raise .keyFault s).link)
    (s.boot.sensing = false → exec (.evaluation levels) s = .next s) ∧
    (s.boot.sensing = true → s.keys.channels.length = 23 →
      (0 < s.params.releaseGuard → ∃ t, exec (.evaluation levels) s = .next t ∧ taken t) ∧
      (s.params.releaseGuard = 0 → ∃ t, taken t ∧ exec (.evaluation levels) s =
        if s.former.state = .chord ∧ t.former.state = .releasing then exec .releaseGuardExpiry t else .next t))

/-- DEBOUNCE_HELD is the evaluation at which its channel changes state otherwise than to STUCK: the channel
takes the state decided with dwell 0. STUCK_LIMIT_REACHED is the one at which it becomes STUCK. Each row
standing for its whole evaluation is the model's deduction (log 15), and for nothing where no such change is made
its choice (log 9). -/
def Obligations.ChannelEventsAreTheirEvaluations : Prop :=
  ∀ (ch : Fin 23) (levels : Levels) (s : State) (c : Channel),
    s.boot.sensing = true → s.keys.channels.length = 23 → s.keys.channels[ch.val]? = some c →
    (∀ st l, channelDecision s.params c levels[ch] = some (st, l) →
      exec (if st = .stuck then .stuckLimitReached ch levels else .debounceHeld ch levels) s =
          exec (.evaluation levels) s ∧
        exec (if st = .stuck then .debounceHeld ch levels else .stuckLimitReached ch levels) s = .next s ∧
        ∃ t d, exec (.evaluation levels) s = .next t ∧ t.keys.channels[ch.val]? = some d ∧
          d.state = st ∧ d.dwell = 0) ∧
    (channelDecision s.params c levels[ch] = none →
      exec (.debounceHeld ch levels) s = .next s ∧ exec (.stuckLimitReached ch levels) s = .next s)

/-- RELEASE_GUARD_EXPIRY: the stroke closes from the chord set with the flags and stamps of R17 to R19, the
stroke former becomes IDLE with an empty chord set (R16), and the record goes where R20 says for the job
state: into the ring while the job is OPEN (said for a ring that does not lose it, with both consumers busy, and
for one whose record the engine takes at once), nowhere in BOOTING and in NO_JOB with stroke copy off, into the discard count while CLOSING, and out as a
STROKE notice in NO_JOB with stroke copy on and notice space.

A WAITING engine with fewer than 24 strokes in its window takes the record in the same step (R60, R61), before
the journal goes on where both can (the model's choice of their order: log 6). A stroke joins the end of the window,
the after count of every OPEN chunk rises by 1, the chunks whose count has then reached the depth close, and an
evaluation, not forced, begins; a correction stroke is dealt with as a correction. Said for an empty ring.

A guard that is not running, or not yet out,
does not expire, and nothing changes (the model's reading of an event that cannot occur: log 9). -/
def Obligations.ReleaseGuardClosesTheStroke : Prop :=
  (∀ s : State, s.former.state ≠ .releasing ∨ (∀ due, s.former.guardDue = some due → s.now < due) →
    exec .releaseGuardExpiry s = .next s) ∧
  ∀ s : State, s.former.state = .releasing → (∃ due, s.former.guardDue = some due ∧ due ≤ s.now) → s.quiet →
    let rest : StrokeFormer := { s.former with state := .idle, chord := 0, guardDue := none }
    let body : RecordBody :=
      { kind := .stroke, value := s.former.chord, correction := s.former.chord == 0x400#23
        degraded := s.former.result.any (fun x => x != .up && x != .down)
        downTime := s.former.downTime, closeTime := s.former.jobClock
        audio := if s.former.audioSeen then some (s.former.audioDown, s.former.audioCount) else none }
    (s.job.state = .opened → s.consumersBusy → s.ring.holding = none → s.ring.nextSeq < 0xFFFFFFFF →
      exec .releaseGuardExpiry s = .next { s with
        former := rest
        ring := if s.ring.entries.length < 64 then
            { s.ring with
              entries := s.ring.entries ++ [⟨s.ring.nextSeq, s.ring.gap, body⟩]
              nextSeq := s.ring.nextSeq + 1, gap := 0 }
          else { s.ring with holding := some ⟨s.ring.gap, body⟩, gap := 0 } }) ∧
    (s.job.state = .opened → s.engine.state = .waiting → s.engine.window.length < 24 → s.ring.entries = [] →
      s.ring.holding = none → s.ring.nextSeq < 0xFFFFFFFF → s.ring.translationCursor = s.ring.nextSeq →
      let ring := (s.ring.arrive body).1.passTranslation
      let window := s.engine.window ++ [⟨s.ring.nextSeq, s.former.chord⟩]
      let chunks := s.engine.chunks.map fun c =>
        if c.isOpen then
          { c with afterCount := c.afterCount + 1, isOpen := decide (c.afterCount + 1 < s.params.depth) }
        else c
      (s.former.chord ≠ 0x400 → exec .releaseGuardExpiry s = .next (cascade (cascadeBound - 1) { s with
        former := rest, ring := ring
        engine := { s.engine with
          state := .evaluating, window := window, chunks := chunks, timerDue := none
          run := some
            { forced := false, work := window, resolved := [], cut := false, parsing := false
              answers := [] } } })) ∧
      (s.former.chord = 0x400 → exec .releaseGuardExpiry s = .next (cascade (cascadeBound - 1)
        (takeCorrection ⟨s.ring.nextSeq, s.ring.gap, body⟩ { s with
          former := rest, ring := ring, engine := { s.engine with timerDue := none } })))) ∧
    (s.job.state = .booting ∨ (s.job.state = .noJob ∧ s.params.strokeCopy = false) →
      exec .releaseGuardExpiry s = .next { s with former := rest }) ∧
    (s.job.state = .closing →
      exec .releaseGuardExpiry s = .next { s with
        former := rest, job := { s.job with discarded := min (s.job.discarded + 1) 0xFFFFFFFF } }) ∧
    (s.job.state = .noJob → s.params.strokeCopy = true → s.link.notices.length < 40 →
      ∃ t, exec .releaseGuardExpiry s = .next t ∧ t = { s with former := rest, link := t.link } ∧
        t.link = { s.link with queue := t.link.queue, attn := t.link.attn } ∧
        t.link.queue = s.link.queue ++
          [⟨false, frameBytes 0x40 0 (be24 body.value.toNat ++
            [recordFlags body.correction body.degraded false body.audio.isSome] ++
            beWord body.downTime ++ beWord body.closeTime ++ audioBytes body.audio), 0, s.now⟩])

/-- AFRM_EDGE: the audio frame counter increases by 1, wrapping from FFFFFFFFh to 0, and audio seen is set
(R19). -/
def Obligations.AfrmEdgeCounts : Prop :=
  ∀ s : State, exec .afrmEdge s =
    .next { s with former := { s.former with audioCount := s.former.audioCount + 1, audioSeen := true } }

/-- An evaluation result at the stroke former (R13 to R16): the channels that went down begin a chord in IDLE
with the stamps of R14, join it in CHORD and in RELEASING; the chord is released when nothing is held down,
and its guard is then due after the release guard; a roll stops the guard. -/
def Obligations.ResultsFormChords : Prop :=
  ∀ (f : StrokeFormer) (result : List ChannelState) (guard now : Nat),
    let went := downSet result &&& ~~~downSet f.result
    let t := f.takeResult result guard now
    t.result = result ∧ t.jobClock = f.jobClock ∧ t.audioCount = f.audioCount ∧ t.audioSeen = f.audioSeen ∧
    (f.state = .idle → went = 0 → t = { f with result := result }) ∧
    (f.state = .idle → went ≠ 0 → t.state = .chord ∧ t.chord = went ∧ t.downTime = f.jobClock ∧
      t.audioDown = f.audioCount ∧ t.guardDue = f.guardDue) ∧
    (f.state = .chord → t.chord = f.chord ||| went ∧ t.downTime = f.downTime ∧ t.audioDown = f.audioDown ∧
      if downSet result = 0 then t.state = .releasing ∧ t.guardDue = some (now + guard)
      else t.state = .chord ∧ t.guardDue = f.guardDue) ∧
    (f.state = .releasing → t.chord = f.chord ||| went ∧ t.downTime = f.downTime ∧ t.audioDown = f.audioDown ∧
      if went = 0 then t.state = .releasing ∧ t.guardDue = f.guardDue
      else t.state = .chord ∧ t.guardDue = none)

/-- CHANNEL_SET (R11, R3): the down level given is clamped to 8–247, raised to the up level plus 16, stored
and returned; a change of enable makes the channel DISABLED, or UP with a fresh run; the latch is kept; a
channel above 22 or an enable that is not 0 or 1 is refused. Nothing else changes. -/
def Obligations.ChannelSetStoresLevelAndEnable : Prop :=
  ∀ (tag ch enable down : Byte) (s : State), s.serves tag →
    let level := max (min (max down.toNat 8) 247) (s.params.upLevel + 16)
    let on := enable == 1
    (22 < ch.toNat ∨ 1 < enable.toNat →
      exec (.channelSet tag [ch, enable, down]) s = .next (s.answering 0x05 tag [0x05])) ∧
    (ch.toNat ≤ 22 → enable.toNat ≤ 1 →
      exec (.channelSet tag [ch, enable, down]) s = .next { s with
        keys := { s.keys with channels := s.keys.channels.modify ch.toNat fun c =>
          { c with
            enable := on, downLevel := level
            state := if c.enable = on then c.state else if on then .up else .disabled
            runLength := if !c.enable && on then 0 else c.runLength
            dwell := if c.enable = on then c.dwell else 0 } }
        link := s.answered 0x05 tag [0x00, BitVec.ofNat 8 level] })

/-- FAULT_CLEAR (R10, R121): a channel above 22 or a port above 4 refuses the whole; otherwise each named
channel's latch is none, or again its fault where the cause is still present, and each named viewer port's line
latch is cleared. KEY_FAULT is raised exactly where the cause of a named channel is still present, and the reply
follows (that a notice comes before the reply of its step is the model's choice: log 6): nothing else changes. -/
def Obligations.FaultClearTestsEachCause : Prop :=
  ∀ (tag : Byte) (payload : List Byte) (s : State), s.serves tag → payload.length = 4 →
    let channels := beValue (payload.take 3)
    let ports := beValue (payload.drop 3)
    let present (c : Channel) : Bool := c.state != .disabled &&
      (c.state == .stuck || c.reading == .openCircuit || c.reading == .shortCircuit)
    let taken : State := { s with link := s.link.withTaken }
    (8388608 ≤ channels ∨ 32 ≤ ports →
      exec (.faultClear tag payload) s = .next (s.answering 0x07 tag [0x05])) ∧
    (channels < 8388608 → ports < 32 →
      ∃ t, exec (.faultClear tag payload) s = .next t ∧
        t = { s with keys := t.keys, feeds := t.feeds, link := t.link } ∧
        (∀ i : Nat, t.keys.channels[i]? = (s.keys.channels[i]?).map fun c =>
          if channels.testBit i then
            { c with latch :=
              if c.state = .disabled then .noFault
              else if c.state = .stuck then .stuck
              else if c.reading = .openCircuit then .openCircuit
              else if c.reading = .shortCircuit then .shortCircuit
              else .noFault }
          else c) ∧
        (∀ i c, s.keys.channels[i]? = some c → channels.testBit i = true → present c = true →
          t.link = (raise .keyFault taken).link.withReply s.now 0x07 tag [0x00]) ∧
        ((∀ i c, s.keys.channels[i]? = some c → channels.testBit i = true → present c = false) →
          t.link = s.answered 0x07 tag [0x00]) ∧
        t.feeds.profileA = s.feeds.profileA ∧ t.feeds.profileB = s.feeds.profileB ∧
        t.feeds.profileC = s.feeds.profileC ∧
        ∀ p : PortId, t.feeds.port p =
          if p ≠ .p0 ∧ ports.testBit (PortId.number p) = true then { s.feeds.port p with lineFault := false }
          else s.feeds.port p)

/-- CHANNEL_QUERY returns the up level and, for each channel in order, its enable, down level, state, latched
fault and last level as they stand; nothing else changes (R12). -/
def Obligations.ChannelQueryReportsTheTable : Prop :=
  ∀ (tag : Byte) (s : State), s.serves tag →
    exec (.channelQuery tag []) s = .next (s.answering 0x06 tag
      ([0x00, BitVec.ofNat 8 s.params.upLevel] ++ s.keys.channels.flatMap fun c =>
        [boolCode c.enable, BitVec.ofNat 8 c.downLevel, channelStateCode c.state, keyFaultCode c.latch,
          c.lastLevel]))

/-! ## The stroke ring (chapter 2) -/

/-- A record arriving at the ring (R24 to R26), and the freeing of what both consumers have passed (R29): a
record is entered with the next number, held when 64 entries are occupied, or lost while the holding slot is
occupied or the numbers have run out; freeing keeps, of a ring whose numbers rise, exactly the entries that
one consumer has not passed, and moves a held record in when an entry is free. -/
def Obligations.RingArrivalsAndFreeing : Prop :=
  (∀ (r : Ring) (b : RecordBody),
    (r.entries.length < 64 → r.holding = none → r.nextSeq < 0xFFFFFFFF →
      r.arrive b = ({ r with entries := r.entries ++ [⟨r.nextSeq, r.gap, b⟩], nextSeq := r.nextSeq + 1, gap := 0 },
        .entered r.nextSeq)) ∧
    (64 ≤ r.entries.length → r.holding = none → r.nextSeq < 0xFFFFFFFF →
      r.arrive b = ({ r with holding := some ⟨r.gap, b⟩, gap := 0 }, .held r.nextSeq)) ∧
    (r.holding ≠ none ∨ 0xFFFFFFFF ≤ r.nextSeq →
      r.arrive b = ({ r with gap := min (r.gap + 1) 255, lost := min (r.lost + 1) 0xFFFFFFFF }, .lost))) ∧
  ∀ r : Ring, r.entries.Pairwise (fun a b => a.seq < b.seq) →
    let kept := r.entries.filter fun e => r.translationCursor ≤ e.seq || r.journalCursor ≤ e.seq
    (r.holding = none → r.free = { r with entries := kept }) ∧
    (∀ h, r.holding = some h → kept.length < 64 →
      r.free = { r with
        entries := kept ++ [⟨r.nextSeq, h.gap, h.body⟩], nextSeq := r.nextSeq + 1, holding := none }) ∧
    (∀ h, r.holding = some h → 64 ≤ kept.length → r.free = { r with entries := kept })

/-- STRIKE and MARK (R30, R31, R23): refused with STATE unless the job is OPEN, and a mark number above 15
with BAD_VALUE; otherwise a record of the kind, stamped with the job clock and the audio frame counter,
arrives at the ring, and the reply gives its outcome and number. Said with both consumers busy, so that the
record is not taken in the step; a record entered or held changes the ring and the link controller alone, and
one that is lost raises STROKE_LOST besides.

The correction (R88 to R92, R106, R124): a STRIKE that the engine can take is taken as one in the same step, before
the journal goes on where both can (the model's choice of their order: log 6), and a correction does what its
target says. A window's last stroke leaves the window, and an evaluation, not forced, begins; an OPEN last chunk,
not a MARK, leaves the list, its text is retracted, its carry-in and its start become the engine's, its strokes but
the last fill the window, and an evaluation begins; each hands its stroke's number on as an amendment. A correction
without a target is refused with a REFUSAL notice. Said, where a text is retracted, with all three profiles on
hold, so that no port chooses. -/
def Obligations.StrikeAndMarkArrive : Prop :=
  (∀ (tag number : Byte) (s : State), s.serves tag →
    let body (kind : RecordKind) (value : Code) : RecordBody :=
      { kind := kind, value := value, correction := kind == .strike, degraded := false
        downTime := s.former.jobClock, closeTime := s.former.jobClock
        audio := if s.former.audioSeen then some (s.former.audioCount, s.former.audioCount) else none }
    let strike := body .strike 0
    let mark := body .mark (BitVec.ofNat 23 number.toNat)
    let outcome : Byte := if s.ring.entries.length < 64 then 0 else 1
    let lost : Link := (raise .strokeLost { s with link := s.link.withTaken }).link
    (s.job.state ≠ .opened →
      exec (.strike tag []) s = .next (s.answering 0x15 tag [0x02]) ∧
      exec (.mark tag [number]) s = .next (s.answering 0x1E tag [0x02])) ∧
    (s.job.state = .opened → 15 < number.toNat →
      exec (.mark tag [number]) s = .next (s.answering 0x1E tag [0x05])) ∧
    (s.job.state = .opened → number.toNat ≤ 15 → s.quiet → s.consumersBusy →
      (s.ring.holding = none → s.ring.nextSeq < 0xFFFFFFFF →
        exec (.strike tag []) s = .next { s with
          ring := (s.ring.arrive strike).1
          link := s.answered 0x15 tag ([0x00, outcome] ++ be32 s.ring.nextSeq) } ∧
        exec (.mark tag [number]) s = .next { s with
          ring := (s.ring.arrive mark).1
          link := s.answered 0x1E tag ([0x00, outcome] ++ be32 s.ring.nextSeq) }) ∧
      (s.ring.holding ≠ none ∨ 0xFFFFFFFF ≤ s.ring.nextSeq →
        exec (.strike tag []) s = .next { s with
          ring := (s.ring.arrive strike).1, link := lost.withReply s.now 0x15 tag [0x00, 0x02, 0, 0, 0, 0] } ∧
        exec (.mark tag [number]) s = .next { s with
          ring := (s.ring.arrive mark).1, link := lost.withReply s.now 0x1E tag [0x00, 0x02, 0, 0, 0, 0] })) ∧
    (s.job.state = .opened → s.quiet → s.engine.state = .waiting → s.engine.window.length < 24 →
      s.ring.entries = [] → s.ring.holding = none → s.ring.nextSeq < 0xFFFFFFFF →
      s.ring.translationCursor = s.ring.nextSeq →
      exec (.strike tag []) s = .next (cascade (cascadeBound - 1) (takeCorrection
        ⟨s.ring.nextSeq, s.ring.gap, strike⟩
        { s with
          ring := (s.ring.arrive strike).1.passTranslation
          engine := { s.engine with timerDue := none }
          link := s.answered 0x15 tag ([0x00, 0x00] ++ be32 s.ring.nextSeq) })))) ∧
  ∀ (rec : RingRecord) (s : State),
    let amended (seq : Nat) : Journal :=
      if s.journal.mode ≠ .running then s.journal
      else if s.journal.amendments.length < 32 then
        { s.journal with amendments := s.journal.amendments ++ [seq] }
      else { s.journal with amendmentsDropped := min (s.journal.amendmentsDropped + 1) 0xFFFFFFFF }
    let begun (e : Engine) : Engine := { e with
      state := .evaluating, timerDue := none
      run := some { forced := false, work := e.window, resolved := [], cut := false, parsing := false
                    answers := [] } }
    (∀ kept w, s.engine.window = kept ++ [w] →
      takeCorrection rec s = { s with
        engine := begun { s.engine with window := kept }, journal := amended w.seq }) ∧
    (s.engine.window = [] →
      (∀ before c kept w, s.engine.chunks = before ++ [c] → c.isOpen = true → c.kind ≠ .mark →
        c.strokes = kept ++ [w] → c.markSource = none →
        let engine := begun { s.engine with
          chunks := before, carry := c.carryIn, resolvedEnd := c.start, window := kept }
        (c.text = [] → takeCorrection rec s = { s with engine := engine, journal := amended w.seq }) ∧
        (c.text ≠ [] → s.feeds.profileA.hold = true → s.feeds.profileB.hold = true →
          s.feeds.profileC.hold = true →
          takeCorrection rec s = { s with
            engine := engine, journal := amended w.seq, stream := { s.stream with length := c.start }
            feeds := s.feeds.mapPorts fun _ p => { p with valid := min p.valid c.start } })) ∧
      ((∀ c, s.engine.chunks.getLast? = some c → c.isOpen = false ∨ c.kind = .mark) →
        let reason : Byte := match s.engine.chunks.getLast? with
          | none => 0x01
          | some c => if c.kind = .mark then 0x03 else 0x02
        let kind : Byte := if rec.body.kind = .strike then 0x02 else 0x01
        let t := takeCorrection rec s
        (s.link.notices.length < 40 →
          t = { s with link := { s.link with
            queue := s.link.queue ++ [⟨false, frameBytes 0x43 0 (be32 rec.seq ++ [kind, reason]), 0, s.now⟩]
            attn := t.link.attn } } ∧ t.link.attn = attnWanted t) ∧
        (40 ≤ s.link.notices.length →
          t = { s with link := { s.link with
            noticesDropped := min (s.link.noticesDropped + 1) 0xFFFFFFFF } })))

/-! ## Dictionary layers and the overlay (chapter 3) -/

/-- LAYER_SET (R40, R41): BUSY while an open is pending, STATE in OPEN and CLOSING, BAD_VALUE and PROTECTED by
the checks on the fields. With the port free and no block at work, a LAYER_SET that disables gives the record
its new region with the header fields and fault count at their start-up values, and one that enables begins
the READ of the region's first 16 bytes, the record as it was until that ends. When that READ completes (its
bytes the memory's with the bits that the command says came back wrong: the model's operand, log 13), the record
takes its new fields, VALID with the header's where R37 accepts it, INVALID otherwise, and the reply says which;
when it times out, the layer is INVALID with its check pending and the reply is MEMORY_FAULT. -/
def Obligations.LayerSetChecksAndApplies : Prop :=
  (∀ (tag number b1 b0 c1 c0 enable : Byte) (s : State), s.serves tag →
    let base := b1.toNat * 256 + b0.toNat
    let count := c1.toNat * 256 + c0.toNat
    let c : Instr := .layerSet tag [number, b1, b0, c1, c0, enable]
    let badValue := number.toNat < 1 ∨ 3 < number.toNat ∨ 1 < enable.toNat ∨ (count = 0 ∧ enable = 1) ∨
      (0 < count ∧ 4096 < base + count)
    let touches := 0 < count ∧ (base = 0 ∨ (base < s.params.journalBase + s.params.journalCount ∧
      s.params.journalBase < base + count ∧ 0 < s.params.journalCount))
    (s.job.openPending ≠ none → exec c s = .next (s.answering 0x08 tag [0x01])) ∧
    (s.job.openPending = none → s.job.state = .opened ∨ s.job.state = .closing →
      exec c s = .next (s.answering 0x08 tag [0x02])) ∧
    (s.job.openPending = none → s.job.state = .noJob →
      (badValue → exec c s = .next (s.answering 0x08 tag [0x05])) ∧
      (¬ badValue → touches → exec c s = .next (s.answering 0x08 tag [0x08])) ∧
      (¬ badValue → ¬ touches → s.quiet → s.portFree →
        ∀ i, layerOf number.toNat = some i →
          (enable = 0 → exec c s = .next { s with
            dict := s.dict.setLayer i
              { base := base, count := count, enable := false, valid := false, checkPending := 0 < count
                bucketBits := 8, entryCount := 0, imageLength := 0, faultCount := 0 }
            link := s.answered 0x08 tag [0x00] }) ∧
          (enable = 1 → exec c s = .next { s with
            port := s.port.serving (.layerSet tag i base count true) (.read (base * 4096) 16) s.now
            link := s.link.withTaken })))) ∧
  ∀ (tag : Byte) (i : LayerId) (base count addr deadline : Nat) (phase : Phase) (flips : List Byte) (s : State),
    s.port.inFlight = some ⟨.read addr 16, .link, phase, deadline, false⟩ →
    s.port.items = [.layerSet tag i base count true] → s.port.headBegun = true → s.port.chosen = none → s.quiet →
    let got := (List.range 16).map fun k => Mem.read1 s.device.mem (addr + k) ^^^ flips.getD k 0
    let bits := (got.getD 3 0).toNat
    let entries := beValue ((got.drop 4).take 4)
    let length := beValue ((got.drop 8).take 4)
    let accepted := got.getD 0 0 = 0x5A ∧ got.getD 1 0 = 0x44 ∧ got.getD 2 0 = 0x01 ∧ 8 ≤ bits ∧ bits ≤ 20 ∧
      16 + 4 * 2 ^ bits ≤ length ∧ length ≤ count * 4096
    let port : MemPort := { s.port with state := .idle, inFlight := none, items := [], headBegun := false }
    let invalid : Layer :=
      { base := base, count := count, enable := true, valid := false, checkPending := false, bucketBits := 8
        entryCount := 0, imageLength := 0, faultCount := 0 }
    (phase = .transfer →
      (accepted → exec (.readComplete flips) s = .next { s with
        port := port
        dict := s.dict.setLayer i { invalid with
          valid := true, bucketBits := bits, entryCount := entries, imageLength := length }
        link := s.link.withReply s.now 0x08 tag
          ([0x00, BitVec.ofNat 8 bits] ++ be32 entries ++ be32 length) }) ∧
      (¬ accepted → exec (.readComplete flips) s = .next { s with
        port := port, dict := s.dict.setLayer i invalid, link := s.link.withReply s.now 0x08 tag [0x09] })) ∧
    (phase = .readyWait → deadline ≤ s.now → exec .readyTimeout s = .next { s with
      port := { port with faultCount := min (s.port.faultCount + 1) 0xFFFFFFFF }
      dict := s.dict.setLayer i { invalid with checkPending := true }
      link := (raise .memoryFault s).link.withReply s.now 0x08 tag [0x0C] })

/-- LAYER_QUERY returns the overlay's entry count and, for each layer of 1 to 3, its whole record as it stands;
it changes nothing, and in BOOTING it is refused with BUSY (R44). -/
def Obligations.LayerQueryReportsTheLayers : Prop :=
  ∀ (tag : Byte) (s : State), s.takes tag →
    (s.job.state = .booting → exec (.layerQuery tag []) s = .next (s.answering 0x09 tag [0x01])) ∧
    (s.job.state ≠ .booting → exec (.layerQuery tag []) s = .next (s.answering 0x09 tag
      ([0x00] ++ be16 s.dict.overlay.length ++ [LayerId.l1, LayerId.l2, LayerId.l3].flatMap fun i =>
        be16 (s.dict.layer i).base ++ be16 (s.dict.layer i).count ++
          [boolCode (s.dict.layer i).enable, boolCode (s.dict.layer i).valid,
            boolCode (s.dict.layer i).checkPending, BitVec.ofNat 8 (s.dict.layer i).bucketBits] ++
          be32 (s.dict.layer i).entryCount ++ be32 (s.dict.layer i).imageLength ++
          be32 (s.dict.layer i).faultCount)))

/-- DEFINE, UNDEFINE and OVERLAY_CLEAR of well-formed values (R54 to R56). Whatever the engine does with the
change, the overlay then holds what the rules give, and the device, the channel table and the parameter store
are as before. With no block at work and the engine IDLE or DRAINING, the overlay, the emptied match cache and
the reply are all that changes (R86, R102).

In the step of the change the match cache is emptied and the engine acts by its state (R95), before the reply and
before the blocks go on (the model's choice of that order: log 6). A WAITING or STALLED engine begins an evaluation,
forced only where it is STALLED with force owed; an EVALUATING one has re-evaluation pending and, after a DEFINE with
the reach-back flag, reach-back pending. In WAITING and STALLED such a DEFINE first carries out the reach-back (R97).
Its region is the OPEN chunks at the end of the list, as many of the newest as the room left in the window for 24
strokes holds (R98). They leave the list, their strokes go to the front of the window, the carry-in and the start of
the first become the engine's, the tail is empty, and a text that reaches past that start is retracted to it (said,
where a text is retracted, with all three profiles on hold, so that no port chooses).

A DEFINE of a new sequence on 512 entries is refused with FULL, an
UNDEFINE of a sequence not held with NOT_FOUND. A payload of DEFINE or UNDEFINE whose length does not match its
counts is refused with BAD_LENGTH, and one of a matching length with a value that is not allowed with BAD_VALUE: a
stroke count outside 1 to 8, a code of 0 or above 7FFFFFh, and for DEFINE a text above 48 bytes or with a byte that
text may not hold, the flags PREFIX or 80h, neither or both of HAS_TEXT and SUPPRESS, or SUPPRESS with a text (R53,
R55). -/
def Obligations.OverlayRequestsChangeTheOverlay : Prop :=
  (∀ (tag options flags : Byte) (codes : List Code) (text : List Byte) (s : State), s.serves tag →
    1 ≤ codes.length → codes.length ≤ 8 → (∀ c ∈ codes, c ≠ 0) → text.length ≤ 48 →
    (∀ b ∈ text, textByte b = true) → flags &&& 0x82 = 0 →
    (flags &&& 0x05 = 0x01 ∨ (flags &&& 0x05 = 0x04 ∧ text = [])) →
    let sequence := [BitVec.ofNat 8 codes.length] ++ codes.flatMap fun c => be24 c.toNat
    let define : Instr := .define tag ([options, flags, BitVec.ofNat 8 codes.length,
      BitVec.ofNat 8 text.length] ++ codes.flatMap (fun c => be24 c.toNat) ++ text)
    let undefine : Instr := .undefine tag sequence
    let held := s.dict.overlay.any fun x => x.sequence == codes
    let entry : OverlayEntry := ⟨codes, flags, text⟩
    let added := if held then s.dict.overlay.map fun x => if x.sequence = codes then entry else x
      else s.dict.overlay ++ [entry]
    let removed := s.dict.overlay.filter fun x => x.sequence != codes
    let changes (c : Instr) (reach : Bool) (overlay : List OverlayEntry) (kind : Byte) (fields : List Byte) : Prop :=
      let goesOn (engine : Engine) (stream : Stream) (feeds : Feeds) : Prop :=
        exec c s = .next (runBlocks { s with
          dict := { s.dict with overlay := overlay }
          engine := engine, stream := stream, feeds := feeds, link := s.answered kind tag ([0x00] ++ fields) })
      let begun (e : Engine) : Engine := { e with
        state := .evaluating, cache := [], timerDue := none
        run := some
          { forced := s.engine.state == .stalled && s.engine.forceOwed, work := e.window, resolved := []
            cut := false, parsing := false, answers := [] } }
      (∃ t, exec c s = .next t ∧ t.dict.overlay = overlay ∧ t.device = s.device ∧ t.keys = s.keys ∧
        t.params = s.params) ∧
      (s.quiet → s.engine.state = .idle ∨ s.engine.state = .draining →
        exec c s = .next { s with
          dict := { s.dict with overlay := overlay }
          engine := { s.engine with cache := [] }
          link := s.answered kind tag ([0x00] ++ fields) }) ∧
      (s.engine.state = .evaluating →
        goesOn { s.engine with
          cache := [], reevaluationPending := true
          reachBackPending := s.engine.reachBackPending || reach } s.stream s.feeds) ∧
      (s.engine.state = .waiting ∨ s.engine.state = .stalled →
        (reach = false → goesOn (begun s.engine) s.stream s.feeds) ∧
        (reach = true → ∀ kept region : List Chunk,
          let strokes (cs : List Chunk) : List StrokeEntry := cs.flatMap (·.strokes)
          let room := 24 - s.engine.window.length
          s.engine.chunks = kept ++ region → (∀ x ∈ region, x.isOpen = true) → (strokes region).length ≤ room →
          (∀ x, kept.getLast? = some x → x.isOpen = false ∨ room < (strokes (x :: region)).length) →
          (region = [] → goesOn (begun s.engine) s.stream s.feeds) ∧
          ∀ first others, region = first :: others →
            let taken := begun { s.engine with
              chunks := kept, carry := first.carryIn, resolvedEnd := first.start, tail := []
              window := strokes region ++ s.engine.window }
            (s.stream.length ≤ first.start → goesOn taken s.stream s.feeds) ∧
            (first.start < s.stream.length → s.feeds.profileA.hold = true → s.feeds.profileB.hold = true →
              s.feeds.profileC.hold = true →
              goesOn taken { s.stream with length := first.start }
                (s.feeds.mapPorts fun _ p => { p with valid := min p.valid first.start }))))
    (held = true ∨ s.dict.overlay.length < 512 →
      changes define (options &&& 0x01 != 0) added 0x0B ([boolCode held] ++ be16 added.length)) ∧
    (held = false → 512 ≤ s.dict.overlay.length → exec define s = .next (s.answering 0x0B tag [0x06])) ∧
    (held = true → changes undefine false removed 0x0C (be16 removed.length)) ∧
    (held = false → exec undefine s = .next (s.answering 0x0C tag [0x07])) ∧
    changes (.overlayClear tag []) false [] 0x0D (be16 s.dict.overlay.length)) ∧
  ∀ (tag : Byte) (payload : List Byte) (s : State), s.serves tag →
    let flags := payload.getD 1 0
    let strokes := (payload.getD 2 0).toNat
    let length := (payload.getD 3 0).toNat
    let sequence := (payload.getD 0 0).toNat
    let barred (code : Nat) : Prop := code = 0 ∨ 0x800000 ≤ code
    let barredText (b : Byte) : Prop := (b.toNat < 0x20 ∨ 0x7E < b.toNat) ∧ b ≠ 0x0A
    (payload.length ≠ 4 + 3 * strokes + length →
      exec (.define tag payload) s = .next (s.answering 0x0B tag [0x04])) ∧
    (payload.length = 4 + 3 * strokes + length →
      (strokes = 0 ∨ 8 < strokes ∨ 48 < length ∨
        (∃ i < strokes, barred (beValue ((payload.drop (4 + 3 * i)).take 3))) ∨
        (∃ b ∈ payload.drop (4 + 3 * strokes), barredText b) ∨
        flags &&& 0x82 ≠ 0 ∨ flags &&& 0x05 = 0 ∨ flags &&& 0x05 = 0x05 ∨ (flags &&& 0x04 ≠ 0 ∧ 0 < length)) →
      exec (.define tag payload) s = .next (s.answering 0x0B tag [0x05])) ∧
    (payload.length ≠ 1 + 3 * sequence →
      exec (.undefine tag payload) s = .next (s.answering 0x0C tag [0x04])) ∧
    (payload.length = 1 + 3 * sequence →
      (sequence = 0 ∨ 8 < sequence ∨
        ∃ i < sequence, barred (beValue ((payload.drop (1 + 3 * i)).take 3))) →
      exec (.undefine tag payload) s = .next (s.answering 0x0C tag [0x05]))

/-- OVERLAY_QUERY of a well-formed sequence (R58, R57): for one the overlay holds, its flags and text, the
overlay's continuation and the entry count; for another NOT_FOUND with the continuation and the count. The
continuation is yes when some entry of the overlay is longer and begins with the sequence. Nothing changes. A
payload whose length does not match its stroke count is refused with BAD_LENGTH, and a stroke count outside 1 to 8
or a code of 0 or above 7FFFFFh with BAD_VALUE (R55, R58). -/
def Obligations.OverlayQueryReportsTheEntry : Prop :=
  (∀ (tag : Byte) (codes : List Code) (s : State), s.serves tag → s.overlayOk →
    1 ≤ codes.length → codes.length ≤ 8 → (∀ c ∈ codes, c ≠ 0) →
    let payload := [BitVec.ofNat 8 codes.length] ++ codes.flatMap fun c => be24 c.toNat
    let continues := boolCode (s.dict.overlay.any fun x =>
      codes.isPrefixOf x.sequence && codes.length < x.sequence.length)
    (∀ e ∈ s.dict.overlay, e.sequence = codes →
      exec (.overlayQuery tag payload) s = .next (s.answering 0x0E tag
        ([0x00, e.flags, continues] ++ be16 s.dict.overlay.length ++ [BitVec.ofNat 8 e.text.length] ++ e.text))) ∧
    ((∀ e ∈ s.dict.overlay, e.sequence ≠ codes) →
      exec (.overlayQuery tag payload) s = .next (s.answering 0x0E tag
        ([0x07, continues] ++ be16 s.dict.overlay.length)))) ∧
  ∀ (tag : Byte) (payload : List Byte) (s : State), s.serves tag →
    let strokes := (payload.getD 0 0).toNat
    (payload.length ≠ 1 + 3 * strokes →
      exec (.overlayQuery tag payload) s = .next (s.answering 0x0E tag [0x04])) ∧
    (payload.length = 1 + 3 * strokes →
      (strokes = 0 ∨ 8 < strokes ∨ ∃ i < strokes,
        let code := beValue ((payload.drop (1 + 3 * i)).take 3)
        code = 0 ∨ 0x800000 ≤ code) →
      exec (.overlayQuery tag payload) s = .next (s.answering 0x0E tag [0x05]))

/-! ## Translation and the text stream (chapters 4 to 6) -/

/-- FORCED_RESOLUTION_EXPIRY (R81): in WAITING a forced evaluation over the window begins, and the blocks go
on; in STALLED force owed is set, which with no block at work is all that changes. A timer that is not
running, or not yet out, does not expire (the model's reading of an event that cannot occur: log 9). -/
def Obligations.TimerForcesResolution : Prop :=
  (∀ s : State, (∀ due, s.engine.timerDue = some due → s.now < due) →
    exec .forcedResolutionExpiry s = .next s) ∧
  ∀ (s : State) (due : Nat), s.engine.timerDue = some due → due ≤ s.now →
    (s.engine.state = .waiting →
      exec .forcedResolutionExpiry s = .next (runBlocks { s with
        engine := { s.engine with
          state := .evaluating, timerDue := none, forceOwed := true
          run := some
            { forced := true, work := s.engine.window, resolved := [], cut := false, parsing := false
              answers := [] } } })) ∧
    (s.engine.state = .stalled → s.quiet →
      exec .forcedResolutionExpiry s = .next { s with
        engine := { s.engine with timerDue := none, forceOwed := true } })

/-- The chunks that an evaluation joins follow one another (R67 to R70): the first starts where the resolved
text ends, each starts where the one before it ends, and each takes the carry state that the one before it
leaves; the text of each is its separator and its text with the capital owed, and its carry-out is R68's; their
source strokes and kinds are those resolved, in order. An evaluation adds just these to the list: said of a
FORCED_RESOLUTION_EXPIRY over one stroke that the overlay decides, with nothing else resolved or held and the
tail already standing as this text, so that the stream is not edited. -/
def Obligations.JoinedChunksFollowOneAnother : Prop :=
  (∀ (isOpen : Bool) (carry : Carry) (p : Nat) (rs : List Resolved),
    let cs := joinAll isOpen carry p rs
    cs.length = rs.length ∧
    (∀ i c, cs[i]? = some c →
      c.isOpen = isOpen ∧ c.afterCount = 0 ∧
      c.start = p + (((cs.take i).map (·.text)).flatten).length ∧
      c.carryIn = ((cs.take i).getLast?.map (·.carryOut)).getD carry) ∧
    (∀ (i : Nat) (c : Chunk) (r : Resolved), cs[i]? = some c → rs[i]? = some r →
      let has (flag : Byte) : Bool := r.flags &&& flag != 0
      let separator : List Byte :=
        if c.start = 0 then []
        else if has 0x40 then [0x0A]
        else if c.carryIn.attach || has 0x08 then []
        else [0x20]
      let capital (b : Byte) : Byte :=
        if c.carryIn.cap = true ∧ r.kind ≠ .untranslate ∧ 0x61 ≤ b.toNat ∧ b.toNat ≤ 0x7A then b - 0x20 else b
      c.flags = r.flags ∧
      (∀ b rest, r.raw = b :: rest →
        c.text = separator ++ capital b :: rest ∧
        c.carryOut.attach = (r.kind != .untranslate && (has 0x10 || has 0x40)) ∧
        c.carryOut.cap = if r.kind = .untranslate then c.carryIn.cap else has 0x20) ∧
      (r.raw = [] →
        c.text = (if c.start ≠ 0 ∧ has 0x40 = true then [0x0A] else []) ∧
        c.carryOut.attach = (c.carryIn.attach || has 0x10 || has 0x40) ∧
        c.carryOut.cap = (c.carryIn.cap || has 0x20))) ∧
    cs.map (·.strokes) = rs.map (·.strokes) ∧ cs.map (·.kind) = rs.map (·.kind)) ∧
  ∀ (s : State) (w : StrokeEntry) (e : OverlayEntry) (due : Nat),
    s.quiet → s.overlayOk → s.engine.state = .waiting → s.engine.timerDue = some due → due ≤ s.now →
    s.engine.window = [w] → s.engine.chunks = [] → s.engine.cache = [] → s.engine.heldMark = none →
    s.engine.closeMark = false → s.engine.reevaluationPending = false → s.dict.lookup = none →
    (∀ i, (s.dict.layer i).enable = false) → 0 < s.params.depth →
    e ∈ s.dict.overlay → e.sequence = [w.code] → e.flags &&& 0x05 = 0x01 →
    let cs := joinAll true s.engine.carry s.engine.resolvedEnd [⟨.entry, [w], e.flags &&& 0x78, e.text⟩]
    s.engine.tail = (cs.map (·.text)).flatten →
    exec .forcedResolutionExpiry s = .next { s with engine := { s.engine with
      window := [], chunks := cs, tail := [], timerDue := none, forceOwed := false, run := none
      carry := (cs.getLast?.map (·.carryOut)).getD s.engine.carry
      resolvedEnd := s.engine.resolvedEnd + ((cs.map (·.text)).flatten).length } }

/-- SET_CORRECTION_DEPTH (R74): the value clamped to 0–16 is stored and returned; exactly the OPEN chunks whose
after count is at or above it are closed, and where there are any the settle test is run on the list so left,
before the reply. Then the blocks go on with what they can do. Where it closes no chunk and no block is at work,
nothing else changes but the reply. That what the closed chunks set off comes before the reply, and the blocks'
further work after it, is the model's choice (log 6). -/
def Obligations.CorrectionDepthClosesChunks : Prop :=
  ∀ (tag value : Byte) (s : State), s.serves tag →
    let depth := min value.toNat 16
    let reached (c : Chunk) : Bool := c.isOpen && decide (depth ≤ c.afterCount)
    let closed : List Chunk :=
      s.engine.chunks.map fun c => if reached c = true then { c with isOpen := false } else c
    let stored : State := { s with
      params := { s.params with depth := depth }, engine := { s.engine with chunks := closed }
      link := s.link.withTaken }
    let answered (t : State) : State :=
      { t with link := t.link.withReply s.now 0x03 tag [0x00, 0x06, BitVec.ofNat 8 depth] }
    (∃ t, exec (.setCorrectionDepth tag [value]) s = .next t ∧ t.params = { s.params with depth := depth } ∧
      t.device = s.device ∧ t.keys = s.keys ∧ t.dict.overlay = s.dict.overlay) ∧
    (∀ c ∈ s.engine.chunks, reached c = true →
      exec (.setCorrectionDepth tag [value]) s = .next (runBlocks (answered (settleTest stored)))) ∧
    ((∀ c ∈ s.engine.chunks, reached c = false) →
      exec (.setCorrectionDepth tag [value]) s = .next (runBlocks (answered stored)) ∧
      (s.quiet → exec (.setCorrectionDepth tag [value]) s = .next { s with
        params := { s.params with depth := depth }
        link := s.answered 0x03 tag [0x00, 0x06, BitVec.ofNat 8 depth] }))

/-- The settle test (R108, R109): the chunks settle oldest first, up to the first that does not qualify; the
settled point increases by exactly their text, their text goes to the end of the refresh store, of which the
last 2048 bytes stay, and the stream's end is not moved. Of one chunk that settles, with the engine not STALLED
and all three profiles on hold, all that changes is said: the unrecorded point, set where it was none and the
mode is PASSING without the chunk being durable (R110), and the FOLLOWING ports whose valid end lies below the
new retain start, or below both the new settled point and their displayed end, which enter REFRESHING (R125). -/
def Obligations.ChunksSettleInOrder : Prop :=
  ∀ s : State,
    let durable (c : Chunk) : Bool :=
      match s.stream.durableSeen with | some n => decide (c.lastSeq ≤ n) | none => false
    let settles (c : Chunk) : Bool := !c.isOpen && (durable c || s.stream.modeSeen == .passing)
    let gone := s.engine.chunks.takeWhile settles
    let text := (gone.map (·.text)).flatten
    let store := s.stream.store ++ text
    let t := settleTest s
    t.engine.chunks = s.engine.chunks.dropWhile settles ∧
    t.stream.settled = s.stream.settled + text.length ∧
    t.stream.length = s.stream.length ∧
    (gone ≠ [] → t.stream.store = store.drop (store.length - 2048)) ∧
    (gone = [] → t = s) ∧
    t.keys = s.keys ∧ t.params = s.params ∧ t.device = s.device ∧
    ∀ c, gone = [c] → s.engine.state ≠ .stalled → s.feeds.profileA.hold = true →
      s.feeds.profileB.hold = true → s.feeds.profileC.hold = true →
      let settled := s.stream.settled + text.length
      let start := settled - 2048
      t = { s with
        engine := { s.engine with chunks := s.engine.chunks.drop 1 }
        stream := { s.stream with
          settled := settled, store := store.drop (store.length - 2048)
          unrecordedPoint :=
            if s.stream.unrecordedPoint = none ∧ s.stream.modeSeen = .passing ∧ durable c = false then some c.start
            else s.stream.unrecordedPoint }
        feeds := s.feeds.mapPorts fun _ p =>
          if p.state = .following ∧ (p.valid < start ∨ (p.valid < settled ∧ p.valid < p.displayed)) then
            { p with
              state := .refreshing, base := start, displayed := start, valid := start, settledSent := start }
          else p }

/-! ## Realtime feeds (chapter 7) -/

/-- The 1 ms sample of the presence lines. LINE_SENSE_SAMPLE (R119): where no line differs from line present,
each viewer port's sense reading and run follow its line, and nothing else changes but the pins' last sample.
LINE_LOST (R120): at the 200th sample of an absent display on a port in use, the port becomes DETACHED at the
retain start with its line latch set, and PORT_FAULT is raised. LINE_GAINED: at the 200th sample of a present
display on a DETACHED port with its profile on hold, the port becomes REFRESHING. Each of the two is the sample
at which it occurs, the model's deduction (log 15), and changes nothing where that sample makes no such change,
its choice (log 9). -/
def Obligations.PresenceSamplesQualify : Prop :=
  ∀ (lines : Presence) (s : State), s.boot.sensing = true →
    ((∀ i ∈ viewerPorts, lineLevel lines i = (s.feeds.port i).linePresent) →
      exec (.lineSenseSample lines) s = .next { s with
        presence := lines
        feeds := s.feeds.mapPorts fun i p =>
          if i = .p0 then p
          else if lineLevel lines i = p.senseReading then { p with senseRun := min (p.senseRun + 1) 200 }
          else { p with senseReading := lineLevel lines i, senseRun := 1 } } ∧
      ∀ i, exec (.lineLost i lines) s = .next s ∧ exec (.lineGained i lines) s = .next s) ∧
    ∀ i ∈ viewerPorts,
      let p := s.feeds.port i
      let start := s.stream.settled - 2048
      (lineLevel lines i = false → p.senseReading = false → p.senseRun = 199 → p.linePresent = true →
        p.state = .refreshing ∨ p.state = .following →
        exec (.lineLost i lines) s = exec (.lineSenseSample lines) s ∧
        ∃ t, exec (.lineLost i lines) s = .next t ∧
          t = { s with presence := lines, feeds := t.feeds, link := t.link } ∧
          t.feeds.port i = { p with
            senseRun := 200, linePresent := false, state := .detached, lineFault := true
            base := start, displayed := start, valid := start, settledSent := start } ∧
          t.link = (raise .portFault s).link) ∧
      (lineLevel lines i = true → p.senseReading = true → p.senseRun = 199 → p.linePresent = false →
        p.state = .detached → (s.feeds.profile p.profile).hold = true →
        exec (.lineGained i lines) s = exec (.lineSenseSample lines) s ∧
        ∃ t, exec (.lineGained i lines) s = .next t ∧
          t = { s with presence := lines, feeds := t.feeds, link := t.link } ∧
          t.feeds.port i = { p with
            senseRun := 200, linePresent := true, state := .refreshing
            base := start, displayed := start, valid := start, settledSent := start })

/-- PACING_EXPIRY (R126): every port that is not OFF has its credit raised by its profile's rate, to no more
than the burst × 100. Said with all three profiles on hold, so that no port chooses: nothing else changes. -/
def Obligations.PacingGathersCredit : Prop :=
  ∀ s : State, s.feeds.profileA.hold = true → s.feeds.profileB.hold = true → s.feeds.profileC.hold = true →
    exec .pacingExpiry s = .next { s with
      feeds := s.feeds.mapPorts fun _ p =>
        if p.state = .off then p
        else { p with
          credit := min (p.credit + (s.feeds.profile p.profile).rate) ((s.feeds.profile p.profile).burst * 100) } }

/-- FRAME_COMPLETION on a viewer port (R130, R127, R128): the frame in flight becomes none; a port on hold, or
without credit, or not in use chooses nothing; a REFRESHING port with credit takes a CLEAR; a FOLLOWING port
whose valid end lies below its displayed end takes a RETRACT, one whose display has all that stands takes the
next text, up to 32 bytes and its credit, and one on a LIVE profile with no text to send takes a SETTLE of what
it has not been told of; with nothing to send none is taken. Each becomes the line's next frame with the bytes
of R129, and the line carries each byte as a start bit, its eight bits least significant first and a stop bit,
and rests at the stop level (R129), which the model writes true (presumed: log 49). A port with no frame in
flight completes none (the model's reading of an event that cannot occur: log 9). -/
def Obligations.FrameCompletionChoosesTheNextFrame : Prop :=
  (∀ (i : PortId) (s : State), i ≠ .p0 →
    let p := s.feeds.port i
    let profile := s.feeds.profile p.profile
    let target := if profile.mode = .live then s.stream.length else s.stream.settled
    let known := min s.stream.settled p.displayed
    let delta := min (known - p.settledSent) 65535
    let n := min (min (target - p.displayed) 32) (p.credit / 100)
    let bytes := readStream s p.displayed n
    let clearAt := max (s.stream.settled - 2048) (s.stream.settled - profile.refreshDepth)
    let ends (q : Port) : Prop := exec (.frameCompletion i) s = .next { s with feeds := s.feeds.setPort i q }
    (p.frame = none → exec (.frameCompletion i) s = .next s) ∧
    (p.frame ≠ none →
      profile.hold = true ∨ p.credit < 100 ∨ (p.state ≠ .refreshing ∧ p.state ≠ .following) →
      ends { p with frame := none }) ∧
    (p.frame ≠ none → profile.hold = false → 100 ≤ p.credit → p.state = .refreshing →
      ends { p with
        state := .following, credit := p.credit - 100, base := clearAt, displayed := clearAt
        valid := clearAt, settledSent := clearAt, frame := some ⟨[0x0C], p.speed⟩ }) ∧
    (p.frame ≠ none → profile.hold = false → 100 ≤ p.credit → p.state = .following →
      (p.valid < p.displayed → ends { p with
        credit := p.credit - 100, displayed := p.valid
        frame := some ⟨0x08 :: be16 (p.displayed - p.valid), p.speed⟩ }) ∧
      (p.displayed ≤ p.valid →
        (p.displayed < target → ends { p with
          credit := p.credit - bytes.length * 100, displayed := p.displayed + bytes.length
          valid := p.displayed + bytes.length
          frame := some ⟨0x02 :: BitVec.ofNat 8 bytes.length :: bytes, p.speed⟩ }) ∧
        (target ≤ p.displayed → profile.mode = .live → p.settledSent < known → ends { p with
          credit := p.credit - 100, settledSent := p.settledSent + delta
          frame := some ⟨0x11 :: be16 delta, p.speed⟩ }) ∧
        (target ≤ p.displayed → profile.mode = .settled ∨ known ≤ p.settledSent →
          ends { p with frame := none })))) ∧
  ∀ p : Port,
    (p.frame = none → p.lineBits = [true]) ∧
    ∀ f, p.frame = some f → p.lineBits = f.bytes.flatMap fun b =>
      [false, b.getLsbD 0, b.getLsbD 1, b.getLsbD 2, b.getLsbD 3, b.getLsbD 4, b.getLsbD 5, b.getLsbD 6,
        b.getLsbD 7, true]

/-- PROFILE_SET (R117): a profile above 2, a mode above 1 or a hold above 1 is refused with BAD_VALUE;
otherwise rate, burst and refresh depth are clamped, stored and returned, each mapped port's credit is lowered
to the new cap, and a mapped port in use enters REFRESHING if the mode or the refresh depth changes. Said
with hold given as true, so that no mapped port chooses: nothing else changes. -/
def Obligations.ProfileSetClampsAndRefreshes : Prop :=
  ∀ (tag number mode r1 r0 burst hold d1 d0 : Byte) (s : State), s.serves tag →
    let c : Instr := .profileSet tag [number, mode, r1, r0, burst, hold, d1, d0]
    (2 < number.toNat ∨ 1 < mode.toNat ∨ 1 < hold.toNat → exec c s = .next (s.answering 0x0F tag [0x05])) ∧
    (mode.toNat ≤ 1 → hold = 1 → ∀ i, profileOf number = some i →
      let old := s.feeds.profile i
      let start := s.stream.settled - 2048
      let new : Profile :=
        { mode := if mode = 0 then .live else .settled
          rate := min (max (r1.toNat * 256 + r0.toNat) 10) 960
          burst := min (max burst.toNat 1) 64
          hold := true
          refreshDepth := min (d1.toNat * 256 + d0.toNat) 2048 }
      exec c s = .next { s with
        feeds := (s.feeds.setProfile i new).mapPorts fun _ p =>
          if p.profile = i then
            let q := { p with credit := min p.credit (new.burst * 100) }
            if (p.state = .refreshing ∨ p.state = .following) ∧
                (old.mode ≠ new.mode ∨ old.refreshDepth ≠ new.refreshDepth) then
              { q with
                state := .refreshing, base := start, displayed := start, valid := start
                settledSent := start }
            else q
          else p
        link := s.answered 0x0F tag
          ([0x00] ++ be16 new.rate ++ [BitVec.ofNat 8 new.burst] ++ be16 new.refreshDepth) })

/-- PORT_SET (R118): a port above 4, an enable above 1, a profile above 2, or on a viewer port a speed above 4
is refused with BAD_VALUE; a port that is disabled becomes OFF with no credit, and one that is enabled becomes
REFRESHING with its line present and DETACHED without, at the retain start, its credit within the new cap.
Said, for an enable, with the profile given on hold, so that the port does not choose: nothing else changes.
For port 0 the speed is not checked and ignored; that its record keeps a speed is the model's (log 8). -/
def Obligations.PortSetAppliesTheEnable : Prop :=
  ∀ (tag number enable profile speed : Byte) (s : State), s.serves tag →
    let c : Instr := .portSet tag [number, enable, profile, speed]
    (4 < number.toNat ∨ 1 < enable.toNat ∨ 2 < profile.toNat ∨ (0 < number.toNat ∧ 4 < speed.toNat) →
      exec c s = .next (s.answering 0x10 tag [0x05])) ∧
    (∀ i prof v, portOf number.toNat = some i → profileOf profile = some prof →
      (if i = .p0 then v = (s.feeds.port i).speed else speedOf speed = some v) →
      let p := s.feeds.port i
      let start := s.stream.settled - 2048
      let q := { p with
        profile := prof, speed := v, base := start, displayed := start, valid := start, settledSent := start }
      (enable = 0 → exec c s = .next { s with
        feeds := s.feeds.setPort i { q with enable := false, state := .off, credit := 0 }
        link := s.answered 0x10 tag [0x00] }) ∧
      (enable = 1 → (s.feeds.profile prof).hold = true → exec c s = .next { s with
        feeds := s.feeds.setPort i { q with
          enable := true, credit := min p.credit ((s.feeds.profile prof).burst * 100)
          state := if i = .p0 ∨ p.linePresent = true then .refreshing else .detached }
        link := s.answered 0x10 tag [0x00] }))

/-- PORT_QUERY returns the three profile records, each port's record and each viewer port's line present and
line latch, as they stand; it changes nothing, and in BOOTING it is refused with BUSY (R122). Port 0's speed
byte is a free value (log 8). -/
def Obligations.PortQueryReportsTheFeeds : Prop :=
  ∀ (tag : Byte) (s : State), s.takes tag →
    (s.job.state = .booting → exec (.portQuery tag []) s = .next (s.answering 0x11 tag [0x01])) ∧
    (s.job.state ≠ .booting → exec (.portQuery tag []) s = .next (s.answering 0x11 tag
      ([0x00] ++ ([ProfileId.a, ProfileId.b, ProfileId.c].flatMap fun i =>
          let p := s.feeds.profile i
          [modeCode p.mode] ++ be16 p.rate ++ [BitVec.ofNat 8 p.burst, boolCode p.hold] ++ be16 p.refreshDepth) ++
        ([PortId.p0, PortId.p1, PortId.p2, PortId.p3, PortId.p4].flatMap fun i =>
          let p := s.feeds.port i
          [boolCode p.enable, profileCode p.profile,
            if i = .p0 then Config.portZeroSpeed else speedCode p.speed, portStateCode p.state] ++
            be32 p.base ++ be32 p.displayed ++ be32 p.valid ++ be32 p.settledSent ++ be16 p.credit) ++
        ([PortId.p1, PortId.p2, PortId.p3, PortId.p4].flatMap fun i =>
          [boolCode (s.feeds.port i).linePresent, boolCode (s.feeds.port i).lineFault]))))

/-! ## The memory port (chapter 9) -/

/-- START_UP (R189, R159): every block is as at reset, with the start-up wait begun; the presence pins, the
clock and the commands that wait stay. The device is as it was, unless a PROGRAM or an ERASE that had been
issued is cut off: then every byte outside its range still reads as before. The model's deductions: what START_UP
leaves alone, and that an operation still in READY_WAIT is not cut off (log 18); and State.reset has values of the
model's own where the manual gives none (log 3). -/
def Obligations.StartUpResetsEveryBlock : Prop :=
  ∀ s : State, s.memoryOk → ∃ t, exec .startUp s = .next t ∧
    t = { State.reset with
      port := { State.reset.port with startDeadline := s.now + 400 }
      device := t.device, presence := s.presence, now := s.now, pending := s.pending } ∧
    ((∀ f, s.port.inFlight = some f → f.phase = .readyWait ∨ ∃ a n, f.op = .read a n) → t.device = s.device) ∧
    (∀ f a bytes, s.port.inFlight = some f → f.op = .program a bytes → s.sameMemoryOutside t a bytes.length) ∧
    ∀ f n, s.port.inFlight = some f → f.op = .erase n → s.sameMemoryOutside t (n * 4096) 4096

/-- The start-up wait (R168, R189): START_UP_DEVICE_READY within the 400 ms makes the port IDLE with device
ready seen, START_UP_WAIT_TIMEOUT at their end with it clear, one memory fault counted and MEMORY_FAULT raised;
in both the settings load begins with its first READ, of 256 bytes at 0. Otherwise neither occurs, and nothing
changes (the model's reading of an event that cannot occur: log 9). That a device found ready has ended what
was cut off is R162's; the bytes this leaves are free (log 5). -/
def Obligations.StartUpWaitEnds : Prop :=
  ∀ s : State,
    (s.port.state ≠ .starting ∨ s.port.startDeadline < s.now → exec .startUpDeviceReady s = .next s) ∧
    (s.port.state ≠ .starting ∨ s.now < s.port.startDeadline → exec .startUpWaitTimeout s = .next s) ∧
    (s.port.state = .starting → s.quiet → s.port.items = [] → s.port.headBegun = false →
      s.port.journalRequest = none → s.port.translationRequest = none → s.port.linkRequest = none →
      (s.now ≤ s.port.startDeadline → exec .startUpDeviceReady s = .next { s with
        boot := .settingsLoad, device := s.device.becomeReady
        port := { s.port with deviceReady := true }.serving (.settingsLoad []) (.read 0 256) s.now }) ∧
      (s.port.startDeadline ≤ s.now → exec .startUpWaitTimeout s = .next { s with
        boot := .settingsLoad, link := (raise .memoryFault s).link
        port := { s.port with
          deviceReady := false, faultCount := min (s.port.faultCount + 1) 0xFFFFFFFF }.serving
            (.settingsLoad []) (.read 0 256) s.now })) ∧
    (s.device.unfinished = none → s.device.becomeReady = s.device)

/-- The phases of an operation (R161): READY_ANSWERED within the deadline ends READY_WAIT and issues the
operation, and TRANSFER_END makes a PROGRAM or an ERASE wait 5 ms or 400 ms at most. In another phase, past
the deadline, for a READ's TRANSFER_END or with nothing in flight, nothing changes (the model's reading of an
event that cannot occur: log 9, log 11). -/
def Obligations.OperationsRunThroughTheirPhases : Prop :=
  ∀ s : State,
    (s.port.inFlight = none → exec .readyAnswered s = .next s ∧ exec .transferEnd s = .next s) ∧
    ∀ f, s.port.inFlight = some f →
      (f.phase ≠ .readyWait ∨ f.deadline < s.now → exec .readyAnswered s = .next s) ∧
      (f.phase = .readyWait → s.now ≤ f.deadline → f.op.inBounds = true →
        exec .readyAnswered s = .next { s with
          device := s.device.becomeReady
          port := { s.port with inFlight := some { f with phase := .transfer } } }) ∧
      (f.phase ≠ .transfer ∨ (∃ a n, f.op = .read a n) → exec .transferEnd s = .next s) ∧
      (∀ a bytes, f.phase = .transfer → f.op = .program a bytes → exec .transferEnd s = .next { s with
        port := { s.port with inFlight := some { f with phase := .busyWait, deadline := s.now + 5 } } }) ∧
      (∀ n, f.phase = .transfer → f.op = .erase n → exec .transferEnd s = .next { s with
        port := { s.port with inFlight := some { f with phase := .busyWait, deadline := s.now + 400 } } })

/-- PROGRAM_COMPLETE and ERASE_COMPLETE (R159, R161): each byte programmed holds its old value AND the value
programmed, the bytes of the sector erased read FFh, and every other byte reads as before. Where the outcome
is dropped, no other operation waits and no block is at work, the port is IDLE with nothing in flight, and
nothing else changes.

Where it is not dropped, the requester's next operation takes the slot in the same step, and nothing else changes
but what the requester is doing, or its item ends. The journal follows a record's or a header's OPEN program with
the READ that verifies it and its COMMITTED program with the READ of its status (R140, R144), and a VOID or a
CORRECTED program with its read-back (R142 to R144, R150). An IMAGE_WRITE follows its PROGRAM with the READ of the
same bytes (R166); a STORE_SETTINGS goes through its seven operations (R188); an IMAGE_ERASE is answered OK (R167);
a JOURNAL_ERASE goes on to its next sector and counts the one erased, and after the last the recovery scan
begins with the READ of its first header (R156; the field slotSpent that it clears is the model's: log 58). -/
def Obligations.ProgramsAndErasesChangeTheirBytes : Prop :=
  ∀ (s : State) (f : InFlight), s.memoryOk → s.port.inFlight = some f → f.phase = .busyWait →
    s.now ≤ f.deadline →
    let freed : MemPort := { s.port with state := .idle, inFlight := none }
    let granted (requester : Requester) (op : MemOp) : MemPort :=
      { s.port with state := .busy, inFlight := some ⟨op, requester, .readyWait, s.now + 5, false⟩ }
    let undisturbed (requester : Requester) : Prop :=
      f.dropped = false ∧ f.requester = requester ∧ s.quiet ∧ s.port.chosen = none
    let serves (item : LinkItem) : Prop := undisturbed .link ∧ s.port.headBegun = true ∧ s.port.items = [item]
    let linkGoesOn (t : State) (item : LinkItem) (op : MemOp) : Prop :=
      t = { s with device := t.device, port := { granted .link op with items := [item] } }
    (∀ a bytes, f.op = .program a bytes → ∃ t, exec .programComplete s = .next t ∧
      (∀ (i : Nat) (b : Byte), bytes[i]? = some b →
        Mem.read1 t.device.mem (a + i) = Mem.read1 s.device.mem (a + i) &&& b) ∧
      s.sameMemoryOutside t a bytes.length ∧
      (f.dropped = true → s.quiet → s.port.chosen = none → t = { s with device := t.device, port := freed }) ∧
      (undisturbed .journal → s.journal.scan = none → s.journal.aborting = false →
        let place (sector slot : Nat) : Nat := (s.params.journalBase + sector) * 4096 + 32 * slot
        let reads (op : JournalOp) (addr n : Nat) : Prop :=
          t = { s with
            device := t.device, journal := { s.journal with op := op }
            port := granted .journal (.read addr n) }
        (∀ w, s.journal.op = .record w .program → reads (.record w .verify) (place w.sector w.slot) 32) ∧
        (∀ w, s.journal.op = .record w .commit → reads (.record w .check) (place w.sector w.slot) 1) ∧
        (∀ w, s.journal.op = .voidRecord w false → reads (.voidRecord w true) (place w.sector w.slot) 1) ∧
        (∀ n h, s.journal.op = .header n h .program → reads (.header n h .verify) (place n 0) 32) ∧
        (∀ n h, s.journal.op = .header n h .commit → reads (.header n h .check) (place n 0) 1) ∧
        (∀ n, s.journal.op = .voidHeader n false → reads (.voidHeader n true) (place n 0) 1) ∧
        (∀ n, s.journal.op = .retire n false → reads (.retire n true) (place n 0) 1) ∧
        ∀ n k, s.journal.op = .correct n k false → reads (.correct n k true) (place n k) 1) ∧
      (∀ tag addr wanted, serves (.imageWrite tag addr wanted false) →
        linkGoesOn t (.imageWrite tag addr wanted true) (.read addr wanted.length)) ∧
      (∀ tag record same,
        (serves (.storeSettings tag record 1 same) →
          linkGoesOn t (.storeSettings tag record 2 same) (.program 256 ((record.drop 256).take 256))) ∧
        (serves (.storeSettings tag record 2 same) →
          linkGoesOn t (.storeSettings tag record 3 same) (.program 512 ((record.drop 512).take 169))) ∧
        (serves (.storeSettings tag record 3 same) →
          linkGoesOn t (.storeSettings tag record 4 same) (.read 0 256)))) ∧
    (∀ n, f.op = .erase n → ∃ t, exec .eraseComplete s = .next t ∧
      (∀ a, n * 4096 ≤ a → a < n * 4096 + 4096 → Mem.read1 t.device.mem a = 0xFF) ∧
      s.sameMemoryOutside t (n * 4096) 4096 ∧
      (f.dropped = true → s.quiet → s.port.chosen = none → t = { s with device := t.device, port := freed }) ∧
      (∀ tag record same, serves (.storeSettings tag record 0 same) →
        linkGoesOn t (.storeSettings tag record 1 same) (.program 0 (record.take 256))) ∧
      (∀ tag sector, serves (.imageErase tag sector) →
        t = { s with
          device := t.device, port := { freed with items := [], headBegun := false }
          link := s.link.withReply s.now 0x1B tag [0x00] }) ∧
      (∀ tag erased x y todo, serves (.journalErase tag (x :: y :: todo) erased) →
        linkGoesOn t (.journalErase tag (y :: todo) (erased + 1)) (.erase y)) ∧
      (∀ tag erased x, serves (.journalErase tag [x] erased) → 0 < s.params.journalCount →
        t = { s with
          device := t.device
          journal := { s.journal with
            sectors := List.replicate s.params.journalCount ⟨.blank, none⟩, current := none, nextSector := none
            slotSpent := false, op := .waiting, scan := some (.classify 0 false)
            scanReplies := s.journal.scanReplies ++ [.erase tag (erased + 1)] }
          port := { granted .journal (.read (s.params.journalBase * 4096) 32) with
            items := [], headBegun := false } }))

/-- READY_TIMEOUT and COMPLETION_TIMEOUT (R162): whoever requested the operation, the memory fault count increases
by 1, staying at FFFFFFFFh, and MEMORY_FAULT is raised, so that it is pending; nothing was issued at a ready
timeout, and at a completion timeout every byte outside the range of the operation reads as before. Where the
outcome is dropped, no other operation waits and no block is at work, the port is IDLE with nothing in flight, and
nothing else changes. Before its deadline neither occurs (the model's reading of an event that cannot occur: log
9).

The requesters' part: an IMAGE_READ that times out is answered MEMORY_FAULT (R165), and a READ of the recovery scan
ends it (R158), said with nothing waiting at the port and no reply owed: memory failed is set, the sector table is
all BLANK without serials, JOURNAL_LOW is raised, the export cursor is at the append point (that it then names the
region's first sector is the model's: log 24), and in start-up the job state becomes NO_JOB. -/
def Obligations.TimeoutsAreCounted : Prop :=
  ∀ (s : State) (f : InFlight), s.memoryOk → s.port.inFlight = some f →
    let counted := min (s.port.faultCount + 1) 0xFFFFFFFF
    let port : MemPort := { s.port with state := .idle, inFlight := none, faultCount := counted }
    let raised : Link := (raise .memoryFault s).link
    let freed (t : State) : Prop := f.dropped = true → s.quiet → s.port.chosen = none →
      t = { s with device := t.device, link := raised, port := port }
    (s.now < f.deadline ∨ f.phase = .transfer →
      exec .readyTimeout s = .next s ∧ exec .completionTimeout s = .next s) ∧
    (f.phase = .readyWait → f.deadline ≤ s.now → ∃ t, exec .readyTimeout s = .next t ∧
      t.port.faultCount = counted ∧ t.link.conditionsPending &&& 0x04 ≠ 0 ∧ t.device = s.device ∧ freed t) ∧
    (f.phase = .busyWait → f.deadline ≤ s.now → ∃ t, exec .completionTimeout s = .next t ∧
      t.port.faultCount = counted ∧ t.link.conditionsPending &&& 0x04 ≠ 0 ∧ freed t ∧
      (∀ a bytes, f.op = .program a bytes → s.sameMemoryOutside t a bytes.length) ∧
      (∀ n, f.op = .erase n → s.sameMemoryOutside t (n * 4096) 4096)) ∧
    (f.phase = .readyWait → f.deadline ≤ s.now → f.dropped = false → s.quiet → s.port.chosen = none →
      (f.requester = .link → s.port.headBegun = true → ∀ tag a n, s.port.items = [.imageRead tag a n] →
        exec .readyTimeout s = .next { s with
          port := { port with items := [], headBegun := false }
          link := raised.withReply s.now 0x19 tag [0x0C] }) ∧
      (f.requester = .journal → s.port.items = [] → s.journal.mode = .idle → s.journal.scanReplies = [] →
        ∀ stage, s.journal.scan = some stage → (∀ todo, stage ≠ .voids todo) →
        exec .readyTimeout s = .next { s with
          port := port, link := (raise .journalLow (raise .memoryFault s)).link
          journal := { s.journal with
            scan := none, memoryFailed := true, current := none, nextSector := none, blankCount := 0
            sectors := List.replicate s.params.journalCount ⟨.blank, none⟩
            cursorSector := 0, cursorSlot := s.journal.appendPoint }
          job := { s.job with state := if s.boot = .recoveryScan then .noJob else s.job.state }
          boot := if s.boot = .recoveryScan then .done else s.boot }))

/-- READ_COMPLETE (R161, R165, R166): the READ of an IMAGE_READ ends its item with the reply OK and the bytes
the device returned, each the memory's with the bits that the command says came back wrong (the model's operand:
log 13); the READ of an IMAGE_WRITE ends it with OK where every byte read equals the byte requested, and with
VERIFY_FAIL and the offset of the first that differs otherwise. Said with nothing else waiting at the port and no
block at work: the port is then IDLE, and nothing else changes.

The READ of a lookup takes its walk on (R47, R38, R39, R50): to the record that the bucket slot or a next offset
names, to the rest of a record whose fixed part is sound, or to the walk's end, without a record, with the record
that matches, or with a fault, which is counted for the layer and in the memory fault count and raises
MEMORY_FAULT. Said of the last layer to consult: at the walk's end the lookup's result reaches the evaluation,
is kept in the match cache unless it carries fault (R62), and the blocks go on. -/
def Obligations.ReadsAnswerTheirRequests : Prop :=
  (∀ (s : State) (addr n deadline : Nat) (flips : List Byte),
    s.port.inFlight = some ⟨.read addr n, .link, .transfer, deadline, false⟩ → s.quiet →
    s.port.headBegun = true → s.port.chosen = none →
    let got := (List.range n).map fun i => Mem.read1 s.device.mem (addr + i) ^^^ flips.getD i 0
    let ended (kind tag : Byte) (payload : List Byte) : State := { s with
      port := { s.port with state := .idle, inFlight := none, items := [], headBegun := false }
      link := s.link.withReply s.now kind tag payload }
    (∀ tag, s.port.items = [.imageRead tag addr n] →
      exec (.readComplete flips) s = .next (ended 0x19 tag (0x00 :: got))) ∧
    (∀ tag bytes, s.port.items = [.imageWrite tag addr bytes true] → bytes.length = n →
      (got = bytes → exec (.readComplete flips) s = .next (ended 0x1A tag [0x00])) ∧
      ∀ k, k < n → (∀ i < k, got[i]? = bytes[i]?) → got[k]? ≠ bytes[k]? →
        exec (.readComplete flips) s = .next (ended 0x1A tag [0x0A, BitVec.ofNat 8 k]))) ∧
  ∀ (s : State) (addr n deadline : Nat) (flips : List Byte) (k : Lookup) (run : EvalRun),
    s.port.inFlight = some ⟨.read addr n, .translation, .transfer, deadline, false⟩ → s.quiet →
    s.port.chosen = none → s.dict.lookup = some k → k.later = [] → s.engine.run = some run →
    let got := (List.range n).map fun i => Mem.read1 s.device.mem (addr + i) ^^^ flips.getD i 0
    let layer := s.dict.layer k.layer
    let offsetOk (o : Nat) : Bool :=
      decide (16 + 4 * 2 ^ layer.bucketBits ≤ o) && decide (o + 11 ≤ layer.imageLength)
    let reads (stage : WalkStage) (offset length : Nat) : Prop :=
      exec (.readComplete flips) s = .next { s with
        dict := { s.dict with lookup := some { k with stage := stage } }
        port := { s.port with
          state := .busy
          inFlight := some ⟨.read (layer.base * 4096 + offset) length, .translation, .readyWait, s.now + 5, false⟩ } }
    let ends (t : State) (r : LookupResult) : Prop :=
      exec (.readComplete flips) s = .next (runBlocks { t with
        dict := { t.dict with lookup := none }
        engine := { s.engine with
          run := some { run with answers := run.answers ++ [(k.sequence, r)] }
          cache := if r.fault then s.engine.cache else s.engine.cache ++ [(k.sequence, r)] } })
    let freed : State := { s with port := { s.port with state := .idle, inFlight := none } }
    let fault : Prop := ends { freed with
        dict := s.dict.setLayer k.layer { layer with faultCount := min (layer.faultCount + 1) 0xFFFFFFFF }
        port := { freed.port with faultCount := min (s.port.faultCount + 1) 0xFFFFFFFF }
        link := (raise .memoryFault s).link }
      { k.result with fault := true }
    let toRecord (offset examined : Nat) : Prop :=
      (offset = 0xFFFFFFFF → ends freed k.result) ∧
      (offset ≠ 0xFFFFFFFF → offsetOk offset = false ∨ 32 ≤ examined → fault) ∧
      (offset ≠ 0xFFFFFFFF → offsetOk offset = true → examined < 32 →
        reads (.fixedPart offset examined) offset 7)
    (k.stage = .slot → toRecord (beValue got) 0) ∧
    (∀ offset examined, k.stage = .fixedPart offset examined →
      let next := beValue (got.take 4)
      let strokes := (got.getD 4 0).toNat
      let text := (got.getD 6 0).toNat
      let corrupt := strokes < 1 ∨ 8 < strokes ∨ 48 < text ∨ layer.imageLength < offset + 8 + 3 * strokes + text ∨
        (next ≠ 0xFFFFFFFF ∧ offsetOk next = false)
      (corrupt → fault) ∧
      (¬ corrupt → reads (.remainder offset examined got) (offset + 7) (3 * strokes + text + 1))) ∧
    ∀ offset examined fixed, k.stage = .remainder offset examined fixed →
      let strokes := (fixed.getD 4 0).toNat
      let text := (fixed.getD 6 0).toNat
      let flags := fixed.getD 5 0
      let length := 7 + 3 * strokes + text
      let checks := (fixed ++ got).getD length 0 = ((fixed ++ got).take length).foldl (· + ·) 0
      let same := codesOf (got.take (3 * strokes)) = k.sequence.map (·.toNat)
      let delivered := ((got.drop (3 * strokes)).take text).map fun b => if textByte b = true then b else 0x3F
      (¬ checks → fault) ∧
      (checks → same → ends freed { k.result with
        decision :=
          if k.result.decision ≠ .undecided then k.result.decision
          else if flags &&& 0x04 ≠ 0 then .suppressed
          else if flags &&& 0x01 ≠ 0 then .text (flags &&& 0x78) delivered
          else .undecided
        continuation := k.result.continuation || flags &&& 0x02 != 0 }) ∧
      (checks → ¬ same → toRecord (beValue (fixed.take 4)) (examined + 1))

/-- IMAGE_READ, IMAGE_WRITE and IMAGE_ERASE (R165 to R167, R43): the refusals of their checks, and, of a
request that passes with the port free and no block at work, its item begun with its first operation: the READ
of the bytes, or, with every layer whose region is touched marked INVALID with its check pending, the PROGRAM or
the ERASE. Behind an item in hand a request that passes waits, and nothing but the queue changes (R163). -/
def Obligations.ImageRequestsReachThePort : Prop :=
  ∀ (tag a2 a1 a0 n s1 s0 : Byte) (bytes : List Byte) (s : State), s.serves tag →
    let addr := a2.toNat * 65536 + a1.toNat * 256 + a0.toNat
    let sector := s1.toNat * 256 + s0.toNat
    let read : Instr := .imageRead tag [a2, a1, a0, n]
    let write : Instr := .imageWrite tag ([a2, a1, a0, n] ++ bytes)
    let erase : Instr := .imageErase tag [s1, s0]
    let guarded (k : Nat) : Prop := k = 0 ∨
      (s.params.journalBase ≤ k ∧ k < s.params.journalBase + s.params.journalCount)
    let mark (k : Nat) (l : Layer) : Layer :=
      if l.base ≤ k ∧ k < l.base + l.count then
        { l with valid := false, checkPending := true, bucketBits := 8, entryCount := 0, imageLength := 0 }
      else l
    let marked (k : Nat) : Dict := { s.dict with
      layer1 := mark k s.dict.layer1, layer2 := mark k s.dict.layer2, layer3 := mark k s.dict.layer3 }
    let free := s.quiet ∧ s.portFree
    let waits := s.quiet ∧ s.itemInHand
    let waiting (i : LinkItem) : State :=
      { s with port := { s.port with items := s.port.items ++ [i] }, link := s.link.withTaken }
    (n.toNat < 1 ∨ 128 < n.toNat ∨ 16777216 < addr + n.toNat →
      exec read s = .next (s.answering 0x19 tag [0x05])) ∧
    (1 ≤ n.toNat → n.toNat ≤ 128 → addr + n.toNat ≤ 16777216 →
      (free → exec read s = .next { s with
        port := s.port.serving (.imageRead tag addr n.toNat) (.read addr n.toNat) s.now
        link := s.link.withTaken }) ∧
      (waits → exec read s = .next (waiting (.imageRead tag addr n.toNat)))) ∧
    (s.job.openPending ≠ none →
      exec write s = .next (s.answering 0x1A tag [0x01]) ∧
      exec erase s = .next (s.answering 0x1B tag [0x01])) ∧
    (s.job.openPending = none → s.job.state = .opened ∨ s.job.state = .closing →
      exec write s = .next (s.answering 0x1A tag [0x02]) ∧
      exec erase s = .next (s.answering 0x1B tag [0x02])) ∧
    (s.job.openPending = none → s.job.state = .noJob →
      (bytes.length ≠ n.toNat → exec write s = .next (s.answering 0x1A tag [0x04])) ∧
      (bytes.length = n.toNat → n.toNat < 1 ∨ 128 < n.toNat ∨ 256 < addr % 256 + n.toNat →
        exec write s = .next (s.answering 0x1A tag [0x05])) ∧
      (bytes.length = n.toNat → 1 ≤ n.toNat → n.toNat ≤ 128 → addr % 256 + n.toNat ≤ 256 →
        (guarded (addr / 4096) → exec write s = .next (s.answering 0x1A tag [0x08])) ∧
        (¬ guarded (addr / 4096) → free → exec write s = .next { s with
          port := s.port.serving (.imageWrite tag addr bytes false) (.program addr bytes) s.now
          dict := marked (addr / 4096), link := s.link.withTaken }) ∧
        (¬ guarded (addr / 4096) → waits →
          exec write s = .next (waiting (.imageWrite tag addr bytes false)))) ∧
      (4096 ≤ sector → exec erase s = .next (s.answering 0x1B tag [0x05])) ∧
      (sector < 4096 →
        (guarded sector → exec erase s = .next (s.answering 0x1B tag [0x08])) ∧
        (¬ guarded sector → free → exec erase s = .next { s with
          port := s.port.serving (.imageErase tag sector) (.erase sector) s.now
          dict := marked sector, link := s.link.withTaken }) ∧
        (¬ guarded sector → waits → exec erase s = .next (waiting (.imageErase tag sector)))))

/-- JOURNAL_SEEK, JOURNAL_READ and JOURNAL_ERASE (R154 to R156, R176): BUSY in a scan, the erase BUSY while an
open or abort is pending and STATE in OPEN and CLOSING, BAD_VALUE by their values; otherwise, with the port
free and no block at work, the seek reads the header of the sector of the highest serial, or finds nothing in a
region without serials; the read reads the slot at the export cursor, or returns no records at the append
point; the erase erases its first sector. That a sector is numbered in the memory in a reply is the model's
(log 10). -/
def Obligations.JournalRequestsReachThePort : Prop :=
  ∀ (tag j1 j0 q3 q2 q1 q0 n : Byte) (s : State), s.serves tag →
    let job := j1.toNat * 256 + j0.toNat
    let seq := q3.toNat * 16777216 + q2.toNat * 65536 + q1.toNat * 256 + q0.toNat
    let first := q3.toNat * 256 + q2.toNat
    let count := q1.toNat * 256 + q0.toNat
    let seek : Instr := .journalSeek tag [j1, j0, q3, q2, q1, q0]
    let read : Instr := .journalRead tag [n]
    let erase : Instr := .journalErase tag [q3, q2, q1, q0]
    let free := s.quiet ∧ s.portFree
    let place := be16 (s.params.journalBase + s.journal.cursorSector) ++
      [BitVec.ofNat 8 s.journal.cursorSlot]
    (s.journal.scan ≠ none →
      exec seek s = .next (s.answering 0x16 tag [0x01]) ∧
      exec read s = .next (s.answering 0x17 tag [0x01]) ∧
      exec erase s = .next (s.answering 0x18 tag [0x01])) ∧
    (s.journal.scan = none →
      (job = 0 → exec seek s = .next (s.answering 0x16 tag [0x05])) ∧
      (job ≠ 0 → free →
        (s.journal.bySerial = [] → exec seek s = .next (s.answering 0x16 tag [0x07])) ∧
        ∀ c k later, s.journal.bySerial = (c, k) :: later → exec seek s = .next { s with
          port := s.port.serving (.journalSeek tag job seq c 0 false (later.map (·.1)))
            (.read ((s.params.journalBase + c) * 4096) 32) s.now
          link := s.link.withTaken }) ∧
      (n.toNat < 1 ∨ 7 < n.toNat → exec read s = .next (s.answering 0x17 tag [0x05])) ∧
      (1 ≤ n.toNat → n.toNat ≤ 7 → free →
        (s.journal.op = .waiting → s.journal.current = some s.journal.cursorSector →
          s.journal.appendPoint ≤ s.journal.cursorSlot →
          exec read s = .next (s.answering 0x17 tag ([0x00] ++ place ++ [0x00]))) ∧
        (s.journal.current ≠ some s.journal.cursorSector → s.journal.cursorSlot < 128 →
          (s.journal.row s.journal.cursorSector).serial ≠ none →
          exec read s = .next { s with
            port := s.port.serving (.journalRead tag n.toNat [])
              (.read ((s.params.journalBase + s.journal.cursorSector) * 4096 + 32 * s.journal.cursorSlot) 32)
              s.now
            link := s.link.withTaken })) ∧
      (s.job.openPending ≠ none ∨ s.job.abortPending ≠ none →
        exec erase s = .next (s.answering 0x18 tag [0x01])) ∧
      (s.job.openPending = none → s.job.abortPending = none →
        (s.job.state = .opened ∨ s.job.state = .closing →
          exec erase s = .next (s.answering 0x18 tag [0x02])) ∧
        (s.job.state = .noJob → count = 0 ∨ s.params.journalCount < first + count →
          exec erase s = .next (s.answering 0x18 tag [0x05])) ∧
        (s.job.state = .noJob → 0 < count → first + count ≤ s.params.journalCount → free →
          exec erase s = .next { s with
            port := s.port.serving
              (.journalErase tag ((List.range count).map fun k => s.params.journalBase + first + k) 0)
              (.erase (s.params.journalBase + first)) s.now
            link := s.link.withTaken })))

/-- STORE_SETTINGS and the journal region's SET_PARAM (R188, R136, R176): BUSY in a scan and while an open or abort
is pending, STATE in OPEN and CLOSING; otherwise, with the port free and no block at work, the store begins with
the ERASE of sector 0, holding the record built in this step, and a region that passes its checks is stored and the
recovery scan begins with the READ of its first header. A region out of range is refused with BAD_VALUE, and one
that meets a layer's region with PROTECTED; while an open or abort is pending a value of any length is refused with
BUSY, before its owner checks the length (R176).

The scan's READs (R157), each followed by the next with nothing else changed but what its step says: slot 0 and,
when it is all FFh, slot 1 class each sector by the table; after the last sector the IN_USE sector of the highest
serial is current; its slots 1 to 127 set the append point one past the last that is not all FFh, and the slots
below it that are not COMMITTED, CORRECTED or VOID are programmed VOID; then the sectors are read in descending
serial for the last COMMITTED or CORRECTED record, which gives the unclosed job, none where no sector holds one,
and the scan ends with the counts of step 6 (said with no reply owed, with more BLANK sectors than the low
threshold and outside start-up). With no IN_USE sector none is current, and the search for that record follows at
once. The model's choices: that the search for that record reads bytes 0 to 9 of one slot at a time, from slot 127
down to slot 1 (log 10), that without a serial the highest serial is 0 (log 47), that without a current sector
the append point is 1 and without a serial the export cursor names the region's first sector (log 24), and the
field slotSpent, which a scan clears (log 58). -/
def Obligations.StoreAndRegionReachThePort : Prop :=
  (∀ (tag b1 b0 c1 c0 : Byte) (s : State), s.serves tag →
    let base := b1.toNat * 256 + b0.toNat
    let count := c1.toNat * 256 + c0.toNat
    let store : Instr := .storeSettings tag []
    let region : Instr := .setJournalRegion tag [b1, b0, c1, c0]
    let fits := 1 ≤ base ∧ 8 ≤ count ∧ count ≤ 1024 ∧ base + count ≤ 4096
    let meets := ∃ i, 0 < (s.dict.layer i).count ∧ base < (s.dict.layer i).base + (s.dict.layer i).count ∧
      (s.dict.layer i).base < base + count
    let free := s.quiet ∧ s.portFree
    (s.job.openPending ≠ none ∨ s.job.abortPending ≠ none ∨ s.journal.scan ≠ none →
      exec store s = .next (s.answering 0x0A tag [0x01]) ∧
      exec region s = .next (s.answering 0x03 tag [0x01])) ∧
    (s.job.openPending ≠ none ∨ s.job.abortPending ≠ none → ∀ value : List Byte,
      exec (.setJournalRegion tag value) s = .next (s.answering 0x03 tag [0x01])) ∧
    (s.job.openPending = none → s.job.abortPending = none → s.journal.scan = none →
      (s.job.state = .opened ∨ s.job.state = .closing →
        exec store s = .next (s.answering 0x0A tag [0x02]) ∧
        exec region s = .next (s.answering 0x03 tag [0x02])) ∧
      (s.job.state = .noJob → free → exec store s = .next { s with
        port := s.port.serving (.storeSettings tag (settingsRecord s) 0 true) (.erase 0) s.now
        link := s.link.withTaken }) ∧
      (s.job.state = .noJob → ¬ fits → exec region s = .next (s.answering 0x03 tag [0x05])) ∧
      (s.job.state = .noJob → fits → meets → exec region s = .next (s.answering 0x03 tag [0x08])) ∧
      (s.job.state = .noJob → fits → ¬ meets → free → exec region s = .next { s with
        params := { s.params with journalBase := base, journalCount := count }
        journal := { s.journal with
          sectors := List.replicate count ⟨.blank, none⟩, current := none, nextSector := none, slotSpent := false
          op := .waiting, scanReplies := s.journal.scanReplies ++ [.region tag]
          scan := some (.classify 0 false) }
        port := { s.port with
          state := .busy
          inFlight := some ⟨.read (base * 4096) 32, .journal, .readyWait, s.now + 5, false⟩ }
        link := s.link.withTaken }))) ∧
  ∀ (s : State) (addr n deadline : Nat) (flips : List Byte),
    s.port.inFlight = some ⟨.read addr n, .journal, .transfer, deadline, false⟩ → s.quiet →
    s.port.chosen = none →
    let got := (List.range n).map fun i => Mem.read1 s.device.mem (addr + i) ^^^ flips.getD i 0
    let blank := got.all (· == 0xFF)
    let status := got.getD 0 0
    let serial := beValue ((got.drop 4).take 4)
    let sound := crcBytes ((got.drop 1).take 29) = got.drop 30
    let slot (sector k : Nat) : Nat := (s.params.journalBase + sector) * 4096 + 32 * k
    let goesOn (j : Journal) (stage : ScanStage) (op : MemOp) : Prop :=
      exec (.readComplete flips) s = .next { s with
        journal := { j with scan := some stage }
        port := { s.port with
          state := .busy, inFlight := some ⟨op, .journal, .readyWait, s.now + 5, false⟩ } }
    let ends (j : Journal) (unclosed : Option Nat) : Prop :=
      let blanks := j.sectors.countP fun r => r.cls == .blank
      s.journal.scanReplies = [] → s.boot = .done → s.journal.mode = .idle → s.port.items = [] →
      s.params.lowThreshold < blanks →
      exec (.readComplete flips) s = .next { s with
        journal := { j with
          scan := none, memoryFailed := false, consecutiveFailures := 0, sectorFailures := 0
          unclosedJob := unclosed, blankCount := blanks, nextSector := (j.candidates j.current).head?
          cursorSector := ((j.bySerial.map (·.1)).getLast?).getD 0
          cursorSlot := if j.bySerial = [] then j.appendPoint else 1 }
        port := { s.port with state := .idle, inFlight := none } }
    let classes (sector : Nat) (row : SectorRow) : Prop :=
      let j : Journal := { s.journal with sectors := s.journal.sectors.set sector row }
      (sector + 1 < s.params.journalCount →
        goesOn j (.classify (sector + 1) false) (.read (slot (sector + 1) 0) 32)) ∧
      (s.params.journalCount ≤ sector + 1 →
        ∀ x xs y ys, j.bySerial = x :: xs → (j.bySerial.filter fun z => (j.row z.1).cls == .inUse) = y :: ys →
          goesOn { j with highestSerial := x.2, current := some y.1 } (.slots 1 []) (.read (slot y.1 1) 32)) ∧
      (s.params.journalCount ≤ sector + 1 → (∀ z ∈ j.bySerial, (j.row z.1).cls ≠ .inUse) →
        let j : Journal := { j with current := none, appendPoint := 1 }
        (∀ x xs, j.bySerial = x :: xs → goesOn { j with highestSerial := x.2 }
          (.latest x.1 127 (xs.map (·.1))) (.read (slot x.1 127) 10)) ∧
        (j.bySerial = [] → ends { j with highestSerial := 0 } none))
    (∀ sector, s.journal.scan = some (.classify sector false) →
      (blank = true → goesOn s.journal (.classify sector true) (.read (slot sector 1) 32)) ∧
      (blank = false → status = 0x3F → classes sector ⟨.inUse, some serial⟩) ∧
      (blank = false → status = 0x00 → sound → classes sector ⟨.retired, some serial⟩) ∧
      (blank = false → status ≠ 0x3F → status ≠ 0x00 ∨ ¬ sound → classes sector ⟨.retired, none⟩)) ∧
    (∀ sector, s.journal.scan = some (.classify sector true) →
      (blank = true → classes sector ⟨.blank, none⟩) ∧ (blank = false → classes sector ⟨.retired, none⟩)) ∧
    (∀ k seen c, s.journal.scan = some (.slots k seen) → s.journal.current = some c →
      let all := seen ++ [(status, blank)]
      (k < 127 → goesOn s.journal (.slots (k + 1) all) (.read (slot c (k + 1)) 32)) ∧
      (127 ≤ k → ∀ used rest, all = used ++ rest → (∀ x ∈ rest, x.2 = true) →
        (∀ x, used.getLast? = some x → x.2 = false) →
        let j : Journal := { s.journal with appendPoint := used.length + 1 }
        let voids := ((List.range used.length).filter fun i =>
          let b := (used.getD i (0, true)).1
          b != 0x3F && b != 0x1F && b != 0x00).map (· + 1)
        (∀ x xs, voids = x :: xs → goesOn j (.voids voids) (.program (slot c x) [0x00])) ∧
        (voids = [] → ∀ y ys, s.journal.bySerial = y :: ys →
          goesOn j (.latest y.1 127 (ys.map (·.1))) (.read (slot y.1 127) 10)))) ∧
    ∀ sector k later, s.journal.scan = some (.latest sector k later) →
      (status ≠ 0x3F → status ≠ 0x1F → 2 ≤ k →
        goesOn s.journal (.latest sector (k - 1) later) (.read (slot sector (k - 1)) 10)) ∧
      (status ≠ 0x3F → status ≠ 0x1F → k ≤ 1 →
        (∀ x xs, later = x :: xs → goesOn s.journal (.latest x 127 xs) (.read (slot x 127) 10)) ∧
        (later = [] → ends s.journal none)) ∧
      (status = 0x3F ∨ status = 0x1F →
        ends s.journal (if got.getD 1 0 = 0x03 then none else some (beValue ((got.drop 8).take 2))))

/-! ## Jobs and the journal (chapters 8 and 10) -/

/-- JOB_OPEN (R171, R151): BUSY while an open or abort is pending, STATE in OPEN and CLOSING, BAD_VALUE for
job 0 or an option above 1, BUSY in a scan, and JOURNAL with the cause for a failed journal unless the option
is set. One that passes becomes open pending with the journal's answer, and its validation begins: said for the
port free and no block at work, the READ of the first layer's header or, with no layer to validate, the open
takes effect in the same step (R42, R172). Each header READ sets its layer as R41's table gives it and is followed
by the next layer's; after the last the open takes effect, and the blocks go on (R42). -/
def Obligations.JobOpenChecksAndValidates : Prop :=
  (∀ (tag j1 j0 option : Byte) (s : State), s.serves tag →
    let job := j1.toNat * 256 + j0.toNat
    let c : Instr := .jobOpen tag [j1, j0, option]
    let pendingLayers := [LayerId.l1, LayerId.l2, LayerId.l3].filter fun i =>
      (s.dict.layer i).enable && (s.dict.layer i).checkPending
    (s.job.openPending ≠ none ∨ s.job.abortPending ≠ none → exec c s = .next (s.answering 0x12 tag [0x01])) ∧
    (s.job.openPending = none → s.job.abortPending = none →
      (s.job.state = .opened ∨ s.job.state = .closing → exec c s = .next (s.answering 0x12 tag [0x02])) ∧
      (s.job.state = .noJob → job = 0 ∨ 1 < option.toNat → exec c s = .next (s.answering 0x12 tag [0x05])) ∧
      (s.job.state = .noJob → job ≠ 0 → option.toNat ≤ 1 →
        (s.journal.scan ≠ none → exec c s = .next (s.answering 0x12 tag [0x01])) ∧
        (s.journal.scan = none → s.journal.op ≠ .seeking → s.quiet → s.portFree →
          (s.journal.memoryFailed = true → option = 0 → exec c s = .next (s.answering 0x12 tag [0x0B, 0x01])) ∧
          let pending (cause : JournalCause) : State := { s with
            job := { s.job with openPending := some ⟨tag, job, option == 1, cause⟩ }
            link := s.link.withTaken }
          let accepted (cause : JournalCause) : Prop :=
            (∀ i rest, pendingLayers = i :: rest → exec c s = .next { pending cause with
              port := s.port.serving (.validation pendingLayers) (.read ((s.dict.layer i).base * 4096) 16) s.now }) ∧
            (pendingLayers = [] →
              exec c s = .next (cascade (cascadeBound - 1) (openTakesEffect (pending cause))))
          (s.journal.memoryFailed = true → option = 1 → accepted .failed) ∧
          (s.journal.memoryFailed = false → s.journal.current ≠ none → s.journal.appendPoint < 128 →
            accepted .noCause))))) ∧
  ∀ (i : LayerId) (rest : List LayerId) (addr deadline : Nat) (flips : List Byte) (s : State),
    s.port.inFlight = some ⟨.read addr 16, .link, .transfer, deadline, false⟩ →
    s.port.items = [.validation (i :: rest)] → s.port.headBegun = true → s.port.chosen = none → s.quiet →
    let got := (List.range 16).map fun k => Mem.read1 s.device.mem (addr + k) ^^^ flips.getD k 0
    let layer := s.dict.layer i
    let bits := (got.getD 3 0).toNat
    let length := beValue ((got.drop 8).take 4)
    let validated : Layer :=
      if got.getD 0 0 = 0x5A ∧ got.getD 1 0 = 0x44 ∧ got.getD 2 0 = 0x01 ∧ 8 ≤ bits ∧ bits ≤ 20 ∧
          16 + 4 * 2 ^ bits ≤ length ∧ length ≤ layer.count * 4096 then
        { layer with
          valid := true, checkPending := false, bucketBits := bits
          entryCount := beValue ((got.drop 4).take 4), imageLength := length }
      else
        { layer with valid := false, checkPending := false, bucketBits := 8, entryCount := 0, imageLength := 0 }
    let dict := s.dict.setLayer i validated
    (∀ j more, rest = j :: more → exec (.readComplete flips) s = .next { s with
      dict := dict
      port := { s.port with
        items := [.validation rest]
        inFlight := some ⟨.read ((dict.layer j).base * 4096) 16, .link, .readyWait, s.now + 5, false⟩
        state := .busy } }) ∧
    (rest = [] → exec (.readComplete flips) s = .next (runBlocks (openTakesEffect { s with
      dict := dict
      port := { s.port with state := .idle, inFlight := none, items := [], headBegun := false } })))

/-- The open takes effect (R172, R21, R32, R82, R112, R134, R151): in one step the job is OPEN with its number,
the clocks are 0, the ring is empty from number 1, the engine is WAITING with nothing held, the stream is
empty, every port's positions are 0, and the journal is RUNNING, or PASSING by its cause; the reply is queued
last, and a chord in progress is kept with its stamps at 0. -/
def Obligations.TheOpenTakesEffect : Prop :=
  ∀ (s : State) (o : OpenPending), s.job.openPending = some o →
    let t := openTakesEffect s
    let mode : JournalMode := if o.answer = .noCause then .running else .passing
    t.job = { s.job with
      state := .opened, number := o.jobNumber, openPending := none, translationDrained := false
      discarded := 0 } ∧
    t.former = { s.former with
      jobClock := 0, audioCount := 0, audioSeen := false
      downTime := if s.former.state = .idle then s.former.downTime else 0
      audioDown := if s.former.state = .idle then s.former.audioDown else 0 } ∧
    t.ring = ⟨[], none, 1, 1, 1, 0, 0⟩ ∧
    (t.engine.state = .waiting ∧ t.engine.window = [] ∧ t.engine.cache = [] ∧ t.engine.chunks = [] ∧
      t.engine.tail = [] ∧ t.engine.carry = ⟨false, false⟩ ∧ t.engine.resolvedEnd = 0 ∧
      t.engine.timerDue = none ∧ t.engine.forceOwed = false ∧ t.engine.heldMark = none ∧
      t.engine.closeMark = false ∧ t.engine.reevaluationPending = false ∧ t.engine.reachBackPending = false) ∧
    (t.stream.length = 0 ∧ t.stream.settled = 0 ∧ t.stream.store = [] ∧ t.stream.durableSeen = none ∧
      t.stream.modeSeen = mode ∧ t.stream.unrecordedPoint = none) ∧
    (t.journal.mode = mode ∧ t.journal.cause = o.answer ∧ t.journal.jobNumber = o.jobNumber ∧
      t.journal.durable = none ∧ t.journal.amendments = [] ∧ t.journal.amendmentsDropped = 0) ∧
    (∀ i, (t.feeds.port i).base = 0 ∧ (t.feeds.port i).displayed = 0 ∧ (t.feeds.port i).valid = 0 ∧
      (t.feeds.port i).settledSent = 0) ∧
    t.link.queue.getLast? = some ⟨true, frameBytes 0x12 o.tag ([0x00, journalModeCode mode,
      journalCauseCode o.answer] ++ [boolCode s.dict.layer1.valid, boolCode s.dict.layer2.valid,
        boolCode s.dict.layer3.valid]), 0, s.now⟩

/-- JOB_CLOSE (R173): refused with STATE unless the job is OPEN; otherwise the job is CLOSING with the close
pending, and the engine and the journal have their marks; no reply is sent yet. Said with both consumers busy
and no block at work, so that nothing else changes.

The close completes (R174, R152, R84): at the read-back of the JOB_CLOSE record's committed status, with nothing
else in hand and no chunk unsettled, the job is NO_JOB, the engine and the journal are IDLE, and the JOB_CLOSE is
answered OK with its summary. In PASSING it completes at once when nothing waits (R83, R152): with the ring drained
for both consumers and nothing held by the engine, in the step of the JOB_CLOSE; the evaluation of the close
leaves the match cache empty, since a key of 1 to 8 codes (R62) is no run of an empty window. That the slot at
the append point has then not been used is kept in a field of the model (log 58). That the bytes which the READ
returns differ from the memory's as the command says is the model's operand (log 13). -/
def Obligations.JobCloseIsTaken : Prop :=
  let summary (s : State) (durable : Nat) (mode cause : Byte) : List Byte :=
    [0x00] ++ be16 s.job.number ++ be32 s.ring.nextSeq ++ be32 durable ++ be32 s.ring.lost ++
      be32 s.job.discarded ++ be32 s.journal.amendmentsDropped ++
      [mode, cause, if s.stream.unrecordedPoint = none then 0x00 else 0x01]
  (∀ (tag : Byte) (s : State), s.serves tag →
    (s.job.state ≠ .opened → exec (.jobClose tag []) s = .next (s.answering 0x13 tag [0x02])) ∧
    (s.job.state = .opened → s.quiet → s.consumersBusy → exec (.jobClose tag []) s = .next { s with
      job := { s.job with state := .closing, closePending := some tag, translationDrained := false }
      engine := { s.engine with closeMark := true }
      journal := { s.journal with closePending := true }
      link := s.link.withTaken }) ∧
    (s.job.state = .opened → s.quiet → s.journal.mode = .passing → s.journal.op = .waiting →
      s.journal.scan = none → s.journal.aborting = false → s.journal.amendments = [] →
      s.ring.entries = [] → s.ring.holding = none → s.ring.translationCursor = s.ring.nextSeq →
      s.ring.journalCursor = s.ring.nextSeq → s.engine.state = .waiting → s.engine.window = [] →
      s.engine.chunks = [] → s.engine.tail = [] → s.engine.heldMark = none →
      s.engine.reevaluationPending = false → (∀ x ∈ s.engine.cache, x.1 ≠ []) → s.dict.lookup = none →
      exec (.jobClose tag []) s = .next { s with
        job := { s.job with state := .noJob, closePending := none, translationDrained := true }
        engine := { s.engine with
          state := .idle, closeMark := false, cache := [], timerDue := none, forceOwed := false, run := none }
        journal := { s.journal with closePending := false, mode := .idle, cause := .noCause }
        stream := { s.stream with modeSeen := .idle }
        link := s.answered 0x13 tag (summary s (match s.journal.durable with | some n => n + 1 | none => 0)
          0x02 (match s.journal.cause with | .noCause => 0x00 | .failed => 0x01 | .exhausted => 0x02)) })) ∧
  ∀ (s : State) (w : RecordWrite) (tag : Byte) (addr deadline : Nat) (flips : List Byte),
    s.port.inFlight = some ⟨.read addr 1, .journal, .transfer, deadline, false⟩ → s.quiet →
    s.journal.op = .record w .check → w.record.kind = .jobClose → s.journal.scan = none →
    s.journal.aborting = false → s.journal.mode = .running → s.journal.cause = .noCause →
    s.job.closePending = some tag → s.engine.chunks = [] → s.engine.run = none → s.port.chosen = none →
    Mem.read1 s.device.mem addr ^^^ flips.getD 0 0 = 0x3F →
    exec (.readComplete flips) s = .next { s with
      port := { s.port with state := .idle, inFlight := none }
      journal := { s.journal with
        op := .waiting, appendPoint := w.slot + 1, slotSpent := false, durable := some w.record.seq
        consecutiveFailures := 0, closePending := false, mode := .idle, cause := .noCause }
      stream := { s.stream with durableSeen := some w.record.seq, modeSeen := .idle }
      engine := { s.engine with state := .idle, closeMark := false }
      job := { s.job with state := .noJob, closePending := none }
      link := s.link.withReply s.now 0x13 tag (summary s (w.record.seq + 1) 0x01 0x00) }

/-- JOB_ABORT (R175, R34, R85, R114, R153): refused with STATE unless the job is OPEN or CLOSING; otherwise
the ring is emptied, the engine is IDLE with nothing held, the journal is IDLE with its queue emptied, the job
is NO_JOB, a pending JOB_CLOSE is answered with STATE and no summary, and, said for a journal with nothing in
hand, no text unsettled, no lookup at the port, no seek queued and no block at work, the reply gives the count of
unjournaled records in the same step and nothing else changes. The append point is left after the last slot used
(R153): past the slot there when that holds a failed copy, which a field of the model keeps (log 58). That the engine's resolved end becomes S, with
which R104's places tile the retained range again, is the model's deduction (log 52). -/
def Obligations.JobAbortDiscardsTheWork : Prop :=
  ∀ (tag : Byte) (s : State), s.serves tag →
    let closed : Link := match s.job.closePending with
      | some close => s.link.withTaken.withReply s.now 0x13 close [0x02]
      | none => s.link.withTaken
    (s.job.state = .noJob → exec (.jobAbort tag []) s = .next (s.answering 0x14 tag [0x02])) ∧
    (s.job.state = .opened ∨ s.job.state = .closing → s.quiet → s.journal.op = .waiting →
      s.journal.aborting = false → s.stream.settled = s.stream.length → s.port.translationRequest = none →
      (∀ f, s.port.inFlight = some f → f.requester ≠ .translation) →
      (∀ i ∈ s.port.items, LinkItem.isSeek i = false) →
      exec (.jobAbort tag []) s = .next { s with
        ring := { s.ring with
          entries := [], holding := none, translationCursor := s.ring.nextSeq, journalCursor := s.ring.nextSeq
          gap := 0 }
        engine := { s.engine with
          state := .idle, window := [], cache := [], chunks := [], tail := [], timerDue := none
          resolvedEnd := s.stream.settled, forceOwed := false, heldMark := none, closeMark := false
          reevaluationPending := false, reachBackPending := false, run := none }
        dict := { s.dict with lookup := none }
        stream := { s.stream with modeSeen := .idle }
        journal := { s.journal with
          amendments := [], closePending := false, rewriteDue := none, jobOpenDue := false, mode := .idle
          cause := .noCause, slotSpent := false
          appendPoint := s.journal.appendPoint + if s.journal.slotSpent then 1 else 0 }
        job := { s.job with state := .noJob, closePending := none, abortPending := none }
        link := closed.withReply s.now 0x14 tag (0x00 :: be32
          (s.ring.nextSeq - s.ring.journalCursor + if s.ring.holding = none then 0 else 1)) })

/-- A record's commit (R140): the append point is past its slot, the durable sequence is its number and is
reported to the stream, consecutive failures are 0, and for a ring record the journal cursor advances. It is what
the read-back of the committed status does where that reads COMMITTED, and the blocks go on; where it does not,
the record's write has failed: both failure counts increase by 1 and the slot's status is programmed VOID (R142).

What follows a failed copy's VOID (R142), told by the read-back of its status: with 3 consecutive failures the mode
becomes PASSING with cause FAILED; else with 2 sector failures, and no other number, the sector is retired (R143),
and otherwise the append point moves on by one, the record to be written again in both. A status that is not 00h
counts in both failure counts and makes the mode PASSING, whatever they are. That the append point stays on a copy
after which the mode is PASSING is the model's deduction (log 25), and that State keeps this in slotSpent its choice
(log 58). That the bytes which a READ returns differ from the memory's as the command says is the model's operand
(log 13). -/
def Obligations.CommitAdvancesTheJournal : Prop :=
  (∀ (w : RecordWrite) (s : State),
    let t := commitRecord w s
    t.journal.appendPoint = w.slot + 1 ∧ t.journal.durable = some w.record.seq ∧
    t.journal.consecutiveFailures = 0 ∧ t.stream.durableSeen = some w.record.seq ∧
    (w.record.kind = .stroke ∨ w.record.kind = .mark ∨ w.record.kind = .strike →
      t.ring = { s.ring with journalCursor := s.ring.journalCursor + 1 }.free) ∧
    (w.record.kind = .jobOpen ∨ w.record.kind = .jobClose → t.ring = s.ring) ∧
    t.device = s.device ∧ t.keys = s.keys ∧ t.params = s.params) ∧
  ∀ (s : State) (w : RecordWrite) (addr deadline : Nat) (flips : List Byte),
    s.port.inFlight = some ⟨.read addr 1, .journal, .transfer, deadline, false⟩ →
    s.journal.scan = none → s.journal.aborting = false →
    let status := Mem.read1 s.device.mem addr ^^^ flips.getD 0 0
    let freed : State := { s with port := { s.port with state := .idle, inFlight := none } }
    let voids (journal : Journal) (sector slot : Nat) : Prop :=
      s.quiet → s.port.chosen = none → exec (.readComplete flips) s = .next { s with
        journal := journal
        port := { s.port with
          state := .busy
          inFlight := some ⟨.program ((s.params.journalBase + sector) * 4096 + 32 * slot) [0x00], .journal,
            .readyWait, s.now + 5, false⟩ } }
    let failures : Journal := { s.journal with
      consecutiveFailures := min (s.journal.consecutiveFailures + 1) 4
      sectorFailures := min (s.journal.sectorFailures + 1) 3 }
    (s.journal.op = .record w .check →
      (status = 0x3F → exec (.readComplete flips) s = .next (runBlocks (commitRecord w freed))) ∧
      (status ≠ 0x3F → voids { failures with op := .voidRecord w false } w.sector w.slot)) ∧
    (s.journal.op = .voidRecord w true →
      let passes (journal : Journal) : Prop :=
        exec (.readComplete flips) s =
          .next (runBlocks (enterPassing .failed { freed with journal := { journal with slotSpent := true } }))
      let again : Journal := { s.journal with rewriteDue := some w.record, slotSpent := false }
      (status ≠ 0x00 → passes failures) ∧
      (status = 0x00 → s.journal.consecutiveFailures = 3 → passes s.journal) ∧
      (status = 0x00 → s.journal.consecutiveFailures < 3 →
        (s.journal.sectorFailures = 2 →
          voids { again with
            current := none, op := .retire w.sector false
            sectors := s.journal.sectors.set w.sector ⟨.retired, (s.journal.row w.sector).serial⟩ } w.sector 0) ∧
        (s.journal.sectorFailures ≠ 2 →
          exec (.readComplete flips) s = .next (runBlocks
            { freed with journal := { again with op := .waiting, appendPoint := w.slot + 1 } }))))

/-! ## The host link (chapter 11) -/

/-- Frames that are not served (R178, R180): a frame discarded by the framer, and a request that comes while 8
are outstanding or with tag 0, count one link fault, staying at FFFFFFFFh, and raise LINK_FAULT; a frame that
is no request kind is answered BAD_KIND; a link resync returns the framer to HUNTING. Nothing else changes.
REQUEST_DISCARDED for a frame that would be taken changes nothing (the model's reading of an event that cannot
occur: log 9). -/
def Obligations.FramesThatAreNotServed : Prop :=
  ∀ (s : State) (tag kind : Byte),
    let discarded (c : Instr) : Prop := exec c s = .next { s with
      link := (raise .linkFault { s with link := { s.link with
        framer := .hunting, linkFaults := min (s.link.linkFaults + 1) 0xFFFFFFFF } }).link }
    discarded .frameDiscarded ∧
    exec .linkResync s = .next { s with link := { s.link with framer := .hunting } } ∧
    (¬ s.takes tag →
      discarded (.requestDiscarded tag) ∧ discarded (.badKindRequest kind tag) ∧
      ∀ c k payload, requestOf c = some (k, tag, payload) → discarded c) ∧
    (s.takes tag →
      exec (.requestDiscarded tag) s = .next s ∧
      exec (.badKindRequest kind tag) s = .next (s.answering kind tag [0x03]))

/-- Requests that the link controller answers itself (R180): in BOOTING every request but IDENTIFY and STATUS
is answered BUSY, and a request of fixed payload length with another length BAD_LENGTH. Nothing else changes. -/
def Obligations.BusyAndLengthAnswers : Prop :=
  ∀ (c : Instr) (kind tag : Byte) (payload : List Byte) (s : State), requestOf c = some (kind, tag, payload) →
    s.takes tag →
    (s.job.state = .booting → kind ≠ 0x01 → kind ≠ 0x02 →
      exec c s = .next (s.answering kind tag [0x01])) ∧
    (s.job.state ≠ .booting ∨ kind = 0x01 ∨ kind = 0x02 →
      ∀ n, (kind, n) ∈ fixedLengths → payload.length ≠ n → exec c s = .next (s.answering kind tag [0x04]))

/-- FRAME_BYTE_RECEIVED (R178): in HUNTING a byte is ignored unless it is A6h, which starts a frame; in
IN_FRAME a LENGTH above 240 and a check that differs discard the frame with one link fault counted; each byte up to
the first check byte (LENGTH, KIND, TAG, the payload and that byte) is added to the bytes taken; the second
byte of a check that matches hands the frame on, and a request is carried out as its own row says. -/
def Obligations.ReceivedFramesAreHandedOn : Prop :=
  ∀ (s : State) (b : Byte),
    (s.link.framer = .hunting →
      exec (.frameByteReceived b) s =
        .next (if b = 0xA6 then { s with link := { s.link with framer := .inFrame [] } } else s)) ∧
    (s.link.framer = .inFrame [] → 240 < b.toNat →
      exec (.frameByteReceived b) s = exec .frameDiscarded s) ∧
    (s.link.framer = .inFrame [] → b.toNat ≤ 240 →
      exec (.frameByteReceived b) s = .next { s with link := { s.link with framer := .inFrame [b] } }) ∧
    (∀ (length : Byte) (rest : List Byte), s.link.framer = .inFrame (length :: rest) → length.toNat ≤ 240 →
      rest.length < 3 + length.toNat →
      exec (.frameByteReceived b) s =
        .next { s with link := { s.link with framer := .inFrame (length :: rest ++ [b]) } }) ∧
    ∀ (kind tag check : Byte) (payload : List Byte), payload.length ≤ 240 →
      let body := [BitVec.ofNat 8 payload.length, kind, tag] ++ payload
      s.link.framer = .inFrame (body ++ [check]) →
      (crcBytes body ≠ [check, b] → exec (.frameByteReceived b) s = exec .frameDiscarded s) ∧
      (crcBytes body = [check, b] →
        (∀ c, c.wellFormed = true → requestOf c = some (kind, tag, payload) →
          exec (.frameByteReceived b) s = exec c s) ∧
        (30 < kind.toNat ∨ kind = 0 → exec (.frameByteReceived b) s = exec (.badKindRequest kind tag) s))

/-- Messages leave the outbound queue (R179, R180, R182, R183). BYTE_CLOCKED_OUT gives the next unsent byte of the
head message, 00h with an empty queue, and is the message's departure at its last byte. MESSAGE_DEPARTURE takes the
head message out: a reply's ends its request's outstanding status, and a notice's, with no notice deferred and port
0 on hold, does nothing more; ATTN then follows the queue. That MESSAGE_DEPARTURE of an empty queue changes nothing
is the model's reading of an event that cannot occur (log 9), and that it stands for the rest of the message, with
SDO left at its last byte, is the model's choice (log 17).

A notice's place is offered first to the deferred CONDITION notices (R182), said of one, whose condition byte is
the condition's set value by the model's deduction (log 33), and then to port 0 (R127, R128, R131, R132), said of a
port 0 with credit for one frame: it takes the first of CLEAR, RETRACT, APPEND and SETTLE that applies, as one EDIT
notice with the frame's kind, the job number, the position and the text, a SETTLE carrying UNRECORDED where the
unrecorded point lies below the new settled sent. Whatever its credit, port 0 then may no longer choose or has
nothing to send. -/
def Obligations.MessagesDepart : Prop :=
  ∀ s : State,
    (s.link.queue = [] → exec .messageDeparture s = .next s ∧
      exec .byteClockedOut s = .next { s with link := { s.link with sdo := 0 } }) ∧
    ∀ m rest, s.link.queue = m :: rest →
      let sdo := m.bytes.getLastD 0
      let p := s.feeds.port0
      let profile := s.feeds.profile p.profile
      let target := if profile.mode = .live then s.stream.length else s.stream.settled
      let known := min s.stream.settled p.displayed
      let sent := p.settledSent + min (known - p.settledSent) 65535
      let clearAt := max (s.stream.settled - 2048) (s.stream.settled - profile.refreshDepth)
      let spent : Port := { p with credit := p.credit - 100 }
      let unrecorded : Byte := if s.stream.unrecordedPoint.any (fun u => decide (u < sent)) then 0x01 else 0x00
      let edit (kind flags : Byte) (position : Nat) (text : List Byte) : List Message :=
        [⟨false, frameBytes 0x41 0 ([kind, flags] ++ be16 s.job.number ++ be32 position ++
          [BitVec.ofNat 8 text.length] ++ text), 0, s.now⟩]
      let departs (q : Port) (more : List Message) (marks : Byte) : Prop :=
        ∃ t, exec .messageDeparture s = .next t ∧
          t = { s with
            feeds := { s.feeds with port0 := q }
            link := { s.link with
              queue := rest ++ more, sdo := sdo, notifyPending := marks, attn := t.link.attn } } ∧
          t.link.attn = attnWanted t
      (m.sent + 1 < m.bytes.length → exec .byteClockedOut s = .next { s with
        link := { s.link with queue := { m with sent := m.sent + 1 } :: rest, sdo := m.bytes.getD m.sent 0 } }) ∧
      (m.bytes.length ≤ m.sent + 1 → exec .byteClockedOut s = exec .messageDeparture s) ∧
      (m.isReply = true ∨ (s.link.notifyPending = 0 ∧ profile.hold = true) →
        ∃ t, exec .messageDeparture s = .next t ∧
          t = { s with link := { s.link with
            queue := rest, sdo := sdo, attn := t.link.attn
            outstanding := if m.isReply then s.link.outstanding - 1 else s.link.outstanding } } ∧
          t.link.attn = attnWanted t) ∧
      (m.isReply = false → (rest.filter fun x => !x.isReply).length < 40 →
        (∀ c : Condition, s.link.notifyPending = c.bit → profile.hold = true →
          departs p [⟨false, frameBytes 0x42 0 [c.bit, s.link.conditionsPending, s.params.reportMask], 0, s.now⟩]
            0) ∧
        (s.link.notifyPending = 0 → profile.hold = false → p.frame = none → 100 ≤ p.credit → p.credit < 200 →
          (p.state = .refreshing → departs { spent with
            state := .following, base := clearAt, displayed := clearAt, valid := clearAt, settledSent := clearAt }
            (edit 0x01 0 clearAt []) 0) ∧
          (p.state = .following → p.valid < p.displayed →
            departs { spent with displayed := p.valid } (edit 0x02 0 p.valid []) 0) ∧
          (p.state = .following → p.displayed ≤ p.valid → p.displayed < target →
            ∀ b, readStream s p.displayed 1 = [b] →
              departs { spent with displayed := p.displayed + 1, valid := p.displayed + 1 }
                (edit 0x03 0 p.displayed [b]) 0) ∧
          (p.state = .following → p.displayed ≤ p.valid → target ≤ p.displayed →
            (profile.mode = .live → p.settledSent < known →
              departs { spent with settledSent := sent } (edit 0x04 unrecorded sent []) 0) ∧
            (profile.mode = .settled ∨ known ≤ p.settledSent → departs p [] 0)))) ∧
      (m.isReply = false →
        ∃ t, exec .messageDeparture s = .next t ∧ (mayChoose t .p0 = false ∨ frameFor t .p0 = none))

/-- GATHER_TIME_EXPIRY (R183): ATTN is asserted exactly while a reply is queued, or at least the trigger level
of notices is, or the oldest notice was queued at least the gather time ago. -/
def Obligations.AttnFollowsTheQueue : Prop :=
  ∀ s : State,
    let notices := s.link.queue.filter fun m => !m.isReply
    ∃ t, exec .gatherTimeExpiry s = .next t ∧ t = { s with link := { s.link with attn := t.link.attn } } ∧
      (t.link.attn = true ↔
        (∃ m ∈ s.link.queue, m.isReply = true) ∨ s.params.trigger ≤ notices.length ∨
          ∃ m, notices.head? = some m ∧ m.queuedAt + s.params.gather ≤ s.now)

/-- Conditions are raised, cleared and masked (R184, R185). A raise sets the pending flag; unmasked and not
notified yet, the condition becomes notified, and its CONDITION notice, with the condition, the pending set and
the report mask, is queued, or without notice space its notify-pending mark is set. CONDITION_QUERY returns the
highest-priority pending condition, by the order of section 11.4 and as its set value (the form of that byte is
the model's deduction: log 33), the pending set and the report mask, and changes nothing. CONDITION_CLEAR of a
set without 80h leaves each named condition pending, and notified if unmasked, exactly where it is a level
condition whose cause still holds, every other as it was, and returns the set so left; with no such cause nothing
else changes. SET_REPORT_MASK stores a mask without 80h; a pending condition that it unmasks, said of one not
notified with notice space, is notified at once; with none, nothing else changes but the reply. That the notice comes before
the reply of its step is the model's choice (log 6). -/
def Obligations.ConditionsAreClearedAndMasked : Prop :=
  (∀ (c : Condition) (s : State),
    let t := raise c s
    let pending := s.link.conditionsPending ||| c.bit
    (s.params.reportMask &&& c.bit ≠ 0 ∨ s.link.notified &&& c.bit ≠ 0 →
      t = { s with link := { s.link with conditionsPending := pending } }) ∧
    (s.params.reportMask &&& c.bit = 0 → s.link.notified &&& c.bit = 0 →
      ((s.link.queue.filter fun m => !m.isReply).length < 40 →
        t = { s with link := { s.link with
          conditionsPending := pending, notified := s.link.notified ||| c.bit
          queue := s.link.queue ++ [⟨false, frameBytes 0x42 0 [c.bit, pending, s.params.reportMask], 0, s.now⟩]
          attn := t.link.attn } } ∧ t.link.attn = attnWanted t) ∧
      (40 ≤ (s.link.queue.filter fun m => !m.isReply).length →
        t = { s with link := { s.link with
          conditionsPending := pending, notified := s.link.notified ||| c.bit
          notifyPending := s.link.notifyPending ||| c.bit } }))) ∧
  ∀ (tag set : Byte) (s : State), s.serves tag →
    let pending := s.link.conditionsPending
    let mask := s.params.reportMask
    let top : Byte :=
      if pending &&& 0x01 ≠ 0 then 0x01 else if pending &&& 0x02 ≠ 0 then 0x02
      else if pending &&& 0x04 ≠ 0 then 0x04 else if pending &&& 0x08 ≠ 0 then 0x08
      else if pending &&& 0x10 ≠ 0 then 0x10 else if pending &&& 0x20 ≠ 0 then 0x20
      else if pending &&& 0x40 ≠ 0 then 0x40 else 0x00
    let holds (c : Condition) : Bool :=
      match c with
      | .journalPassing => s.journal.mode == .passing
      | .keyFault => s.keys.channels.any fun x => x.latch != .noFault
      | .portFault => s.feeds.port1.lineFault || s.feeds.port2.lineFault || s.feeds.port3.lineFault ||
          s.feeds.port4.lineFault
      | .journalLow => decide (s.journal.blankCount ≤ s.params.lowThreshold)
      | .strokeLost => false
      | .memoryFault => false
      | .linkFault => false
    let named (c : Condition) : Bool := set &&& c.bit != 0
    exec (.conditionQuery tag []) s = .next (s.answering 0x1C tag [0x00, top, pending, mask]) ∧
    (set &&& 0x80 ≠ 0 →
      exec (.conditionClear tag [set]) s = .next (s.answering 0x1D tag [0x05]) ∧
      exec (.setReportMask tag [set]) s = .next (s.answering 0x03 tag [0x05])) ∧
    (set &&& 0x80 = 0 →
      (∃ t, exec (.conditionClear tag [set]) s = .next t ∧ t = { s with link := t.link } ∧
        (∀ c : Condition,
          hasFlag t.link.conditionsPending c.bit = (if named c then holds c else hasFlag pending c.bit) ∧
          hasFlag t.link.notified c.bit =
            (if named c then holds c && mask &&& c.bit == 0 else hasFlag s.link.notified c.bit)) ∧
        t.link.queue.getLast? =
          some ⟨true, frameBytes 0x1D tag [0x00, t.link.conditionsPending], 0, s.now⟩ ∧
        ((∀ c : Condition, named c = true → holds c = false) →
          t.link = { s.link.withTaken with
              conditionsPending := pending &&& ~~~set, notified := s.link.notified &&& ~~~set
              notifyPending := s.link.notifyPending &&& ~~~set : Link }.withReply s.now 0x1D tag
            [0x00, pending &&& ~~~set])) ∧
      (∃ t, exec (.setReportMask tag [set]) s = .next t ∧
        t = { s with params := { s.params with reportMask := set }, link := t.link } ∧
        (pending &&& mask &&& ~~~set = 0 → t.link = s.answered 0x03 tag [0x00, 0x0D, set]) ∧
        ∀ c : Condition, pending &&& mask &&& ~~~set = c.bit → s.link.notified &&& c.bit = 0 →
          (s.link.queue.filter fun m => !m.isReply).length < 40 →
          t.link = { s.link.withTaken with
              notified := s.link.notified ||| c.bit
              queue := s.link.queue ++
                [⟨false, frameBytes 0x42 0 [c.bit, pending, set], 0, s.now⟩] : Link }.withReply
            s.now 0x03 tag [0x00, 0x0D, set]))

/-- IDENTIFY returns the codes and capacities of R187, and STATUS the fields of R187 as they stand, in every
job state, BOOTING included; neither changes anything. -/
def Obligations.IdentifyAndStatusReport : Prop :=
  ∀ (tag : Byte) (s : State), s.takes tag →
    exec (.identify tag []) s = .next (s.answering 0x01 tag
      [0x00, 0x57, 0x42, 0x07, 0x40, 0x01, 23, 64, 0x02, 0x00, 4, 24, 64, 5, 48, 8, 240]) ∧
    exec (.status tag []) s = .next (s.answering 0x02 tag
      ([0x00, jobStateCode s.job.state] ++ be16 s.job.number ++
        be32 s.ring.nextSeq ++ [BitVec.ofNat 8 s.ring.entries.length, boolCode s.ring.holding.isSome] ++
        [BitVec.ofNat 8 s.engine.window.length, BitVec.ofNat 8 s.engine.chunks.length] ++
        be32 s.stream.length ++ be32 s.stream.settled ++
        [journalModeCode s.journal.mode,
          if s.journal.mode = .idle ∧ s.journal.memoryFailed = true then 0x01
          else journalCauseCode s.journal.cause,
          boolCode s.journal.durable.isSome] ++
        be32 (s.journal.durable.getD 0) ++ be16 s.journal.blankCount ++ be16 (s.journal.unclosedJob.getD 0) ++
        be32 s.ring.lost ++ be32 s.link.noticesDropped ++ be32 s.journal.amendmentsDropped ++
        be32 s.port.faultCount ++ be32 s.link.linkFaults ++ [boolCode s.link.defaultsInUse]))

/-- SET_PARAM (R186, R2, R3, R75, R79, R147, R183): each value is clamped or refused as its range says, stored,
and returned as applied; nothing else changes, but that a new up level raises the down levels below it plus 16
and that a low threshold at or above the BLANK count raises JOURNAL_LOW. A mark table entry is stored where its
number is at most 15, its set byte 01h, its text at most 32 bytes, each allowed, and its flags of the four;
with its set byte 00h it becomes unset, whatever its flags and its text; any other is refused (R75, R181). The
form of a mark table entry in the reply, and of an unset one, is the model's deduction (log 34), and that
JOURNAL_LOW's notice comes before the reply its choice (log 6). -/
def Obligations.ParametersAreClampedAndStored : Prop :=
  ∀ (tag b v1 v0 number flags : Byte) (text : List Byte) (s : State), s.serves tag →
    let n := b.toNat
    let v := v1.toNat * 256 + v0.toNat
    let up := min (max n 8) 231
    let pause := if v = 0 then 0 else min (max v 100) 10000
    let stuck := min (max v 250) 5000
    let low := min (max n 1) 64
    let stored (p : Params) (value : List Byte) : State :=
      { s with params := p, link := s.answered 0x03 tag (0x00 :: value) }
    let refused := s.answering 0x03 tag [0x05]
    let entry (set : Byte) : List Byte := [number, set, flags, BitVec.ofNat 8 text.length] ++ text
    exec (.setUpLevel tag [b]) s = .next { stored { s.params with upLevel := up } [0x01, BitVec.ofNat 8 up] with
      keys := { s.keys with channels := s.keys.channels.map fun c =>
        { c with downLevel := max c.downLevel (up + 16) } } } ∧
    exec (.setDebounceTime tag [b]) s =
      .next (stored { s.params with debounce := min (max n 1) 15 } [0x02, BitVec.ofNat 8 (min (max n 1) 15)]) ∧
    exec (.setStuckLimit tag [v1, v0]) s =
      .next (stored { s.params with stuckLimit := stuck } (0x03 :: be16 stuck)) ∧
    exec (.setReleaseGuard tag [b]) s =
      .next (stored { s.params with releaseGuard := min n 40 } [0x04, BitVec.ofNat 8 (min n 40)]) ∧
    exec (.setStrokeCopy tag [b]) s =
      .next (if n ≤ 1 then stored { s.params with strokeCopy := b == 1 } [0x05, b] else refused) ∧
    exec (.setResolvePause tag [v1, v0]) s =
      .next (stored { s.params with resolvePause := pause } (0x07 :: be16 pause)) ∧
    exec (.setTriggerLevel tag [b]) s =
      .next (if n = 1 ∨ n = 4 ∨ n = 8 ∨ n = 16 then stored { s.params with trigger := n } [0x08, b]
        else refused) ∧
    exec (.setGatherTime tag [b]) s =
      .next (stored { s.params with gather := min (max n 1) 100 } [0x09, BitVec.ofNat 8 (min (max n 1) 100)]) ∧
    (low < s.journal.blankCount → exec (.setLowThreshold tag [b]) s =
      .next (stored { s.params with lowThreshold := low } [0x0B, BitVec.ofNat 8 low])) ∧
    (s.journal.blankCount ≤ low → exec (.setLowThreshold tag [b]) s = .next { s with
      params := { s.params with lowThreshold := low }
      link := (raise .journalLow { s with link := s.link.withTaken }).link.withReply s.now 0x03 tag
        [0x00, 0x0B, BitVec.ofNat 8 low] }) ∧
    (text.length ≤ 240 → exec (.setMarkTableEntry tag (entry 0x01)) s =
      .next (if number.toNat ≤ 15 ∧ text.length ≤ 32 ∧ flags &&& 0x87 = 0 ∧ text.all textByte = true then
          stored { s.params with marks := s.params.marks.set number.toNat (some ⟨flags, text⟩) }
            (0x0C :: entry 0x01)
        else refused)) ∧
    (text.length ≤ 240 → exec (.setMarkTableEntry tag (entry 0x00)) s =
      .next (if number.toNat ≤ 15 then
          stored { s.params with marks := s.params.marks.set number.toNat none } [0x0C, number, 0x00, 0x00, 0x00]
        else refused)) ∧
    (text.length ≤ 240 → 1 < n → exec (.setMarkTableEntry tag (entry b)) s = .next refused)

/-- SET_PARAM with an unknown identifier is refused with BAD_VALUE, and GET_PARAM too; GET_PARAM of a known one
replies OK with the value in force, naming a mark for the mark table, of which a number above 15 is refused with
BAD_VALUE; nothing else changes (R186). A SET_PARAM without an identifier, and one of any of the
thirteen identifiers whose value does not fit it, are refused with BAD_LENGTH, a mark table entry's where its text
is not as long as it says; for the journal region while no open or abort is pending (R176), and for the
correction depth said with no block at work. The model's deductions: the second byte of a GET_PARAM is read for the mark table
alone, and an unset entry comes back as the number and three 00h (log 34). The model's choices: BAD_LENGTH
without an identifier, BAD_VALUE for an unknown one whatever its length and the length of the region before its
state (log 35), and
SET_PARAM_UNKNOWN_IDENTIFIER of an identifier that has a row of its own handled as of an unknown one (log 44). -/
def Obligations.ParametersAreRead : Prop :=
  ∀ (tag id number : Byte) (value : List Byte) (s : State), s.serves tag →
    let p := s.params
    let returned (v : List Byte) : State := s.answering 0x04 tag ([0x00, id] ++ v)
    let get := exec (.getParam tag [id, number]) s
    exec (.setParamUnknownIdentifier tag []) s = .next (s.answering 0x03 tag [0x04]) ∧
    exec (.setParamUnknownIdentifier tag (id :: value)) s = .next (s.answering 0x03 tag [0x05]) ∧
    (value.length ≠ 1 →
      (∀ c ∈ [Instr.setUpLevel tag value, .setDebounceTime tag value, .setReleaseGuard tag value,
        .setStrokeCopy tag value, .setTriggerLevel tag value, .setGatherTime tag value,
        .setLowThreshold tag value, .setReportMask tag value],
        exec c s = .next (s.answering 0x03 tag [0x04])) ∧
      (s.quiet → exec (.setCorrectionDepth tag value) s = .next (s.answering 0x03 tag [0x04]))) ∧
    (value.length ≠ 2 → ∀ c ∈ [Instr.setStuckLimit tag value, .setResolvePause tag value],
      exec c s = .next (s.answering 0x03 tag [0x04])) ∧
    (value.length ≠ 4 → s.job.openPending = none → s.job.abortPending = none →
      exec (.setJournalRegion tag value) s = .next (s.answering 0x03 tag [0x04])) ∧
    (value.length < 4 ∨ value.length ≠ 4 + (value.getD 3 0).toNat →
      exec (.setMarkTableEntry tag value) s = .next (s.answering 0x03 tag [0x04])) ∧
    (id = 0x01 → get = .next (returned [BitVec.ofNat 8 p.upLevel])) ∧
    (id = 0x02 → get = .next (returned [BitVec.ofNat 8 p.debounce])) ∧
    (id = 0x03 → get = .next (returned (be16 p.stuckLimit))) ∧
    (id = 0x04 → get = .next (returned [BitVec.ofNat 8 p.releaseGuard])) ∧
    (id = 0x05 → get = .next (returned [boolCode p.strokeCopy])) ∧
    (id = 0x06 → get = .next (returned [BitVec.ofNat 8 p.depth])) ∧
    (id = 0x07 → get = .next (returned (be16 p.resolvePause))) ∧
    (id = 0x08 → get = .next (returned [BitVec.ofNat 8 p.trigger])) ∧
    (id = 0x09 → get = .next (returned [BitVec.ofNat 8 p.gather])) ∧
    (id = 0x0A → get = .next (returned (be16 p.journalBase ++ be16 p.journalCount))) ∧
    (id = 0x0B → get = .next (returned [BitVec.ofNat 8 p.lowThreshold])) ∧
    (id = 0x0C → number.toNat ≤ 15 →
      (∀ m, p.marks.getD number.toNat none = some m →
        get = .next (returned ([number, 0x01, m.flags, BitVec.ofNat 8 m.text.length] ++ m.text))) ∧
      (p.marks.getD number.toNat none = none → get = .next (returned [number, 0x00, 0x00, 0x00]))) ∧
    (id = 0x0C → 15 < number.toNat → get = .next (s.answering 0x04 tag [0x05])) ∧
    (id = 0x0D → get = .next (returned [p.reportMask])) ∧
    (id = 0 ∨ 0x0D < id.toNat → get = .next (s.answering 0x04 tag [0x05]))

/-- What STORE_SETTINGS stores, the settings load of start-up reads back (R188, R189): the record built from a
part whose settings are in range is 681 bytes and valid, and applied to a part in any state it gives the same
parameters, channel enables and down levels, profiles, port enables, profiles and viewer line speeds, and layer
regions and enables, with defaults in use clear. Port 0's speed byte is a free value (log 8).

The load makes its three READs, of 256, 256 and 169 bytes, one after another whatever becomes of each, a timeout
counted and raised each time (R168, R189). After the last, a valid record is the part's settings, with ATTN tested
for its trigger level and gather time (R183); a record that is not valid, or of which a READ timed out, leaves
every setting and defaults in use as they are. Then the ports take their states, and the recovery scan begins. -/
def Obligations.StoredSettingsLoadBack : Prop :=
  (∀ s r : State, s.settingsInRange →
    let record := settingsRecord s
    let t := applySettings record r
    record.length = 681 ∧ settingsValid record = true ∧ t.params = s.params ∧ t.link.defaultsInUse = false ∧
    t.keys.channels.map (fun c => (c.enable, c.downLevel)) =
      s.keys.channels.map (fun c => (c.enable, c.downLevel)) ∧
    (∀ i, t.feeds.profile i = s.feeds.profile i) ∧
    (∀ i, (t.feeds.port i).enable = (s.feeds.port i).enable ∧
      (t.feeds.port i).profile = (s.feeds.port i).profile) ∧
    (∀ i ∈ viewerPorts, (t.feeds.port i).speed = (s.feeds.port i).speed) ∧
    ∀ i, (t.dict.layer i).base = (s.dict.layer i).base ∧ (t.dict.layer i).count = (s.dict.layer i).count ∧
      (t.dict.layer i).enable = (s.dict.layer i).enable) ∧
  ∀ (s : State) (addr n deadline : Nat) (phase : Phase) (flips : List Byte) (parts : List (Option (List Byte))),
    s.port.inFlight = some ⟨.read addr n, .link, phase, deadline, false⟩ → s.quiet → s.port.headBegun = true →
    s.port.chosen = none → s.port.items = [.settingsLoad parts] →
    let got := (List.range n).map fun i => Mem.read1 s.device.mem (addr + i) ^^^ flips.getD i 0
    let next (part : Option (List Byte)) : MemPort := { s.port with
      state := .busy, items := [.settingsLoad (parts ++ [part])]
      inFlight := some ⟨if parts.length = 0 then .read 256 256 else .read 512 169, .link, .readyWait, s.now + 5,
        false⟩ }
    let freed : State := { s with
      port := { s.port with state := .idle, inFlight := none, items := [], headBegun := false } }
    let timedOut : State := { freed with
      port := { freed.port with faultCount := min (s.port.faultCount + 1) 0xFFFFFFFF }
      link := (raise .memoryFault s).link }
    let loaded (t : State) : State := runBlocks (startUpScan (portsTakeStates { t with boot := .recoveryScan }))
    (parts.length < 2 →
      (phase = .transfer → exec (.readComplete flips) s = .next { s with port := next (some got) }) ∧
      (phase = .readyWait → deadline ≤ s.now → exec .readyTimeout s = .next { s with
        port := { next none with faultCount := min (s.port.faultCount + 1) 0xFFFFFFFF }
        link := timedOut.link })) ∧
    (∀ a b, parts = [some a, some b] → phase = .transfer →
      let record := a ++ b ++ got
      let applied := applySettings record freed
      (settingsValid record = true → exec (.readComplete flips) s = .next (loaded { applied with
        link := { applied.link with attn := attnWanted applied } })) ∧
      (settingsValid record = false → exec (.readComplete flips) s = .next (loaded freed))) ∧
    (∀ a b, parts = [a, b] → a = none ∨ b = none → phase = .transfer →
      exec (.readComplete flips) s = .next (loaded freed)) ∧
    (parts.length = 2 → phase = .readyWait → deadline ≤ s.now →
      exec .readyTimeout s = .next (loaded timedOut))
end

