-- ==== Sys2Proof/Laws/State.lean ====
section
/-! SUPPORT. One lemma per field per update of the state: each update changes its own block alone. -/

namespace Sys2Proof.Machine

/-! ### mapKeys -/

@[simp] theorem State.mapKeys_keys (s : State) (f : Keys → Keys) :
    (s.mapKeys f).keys = f s.keys := rfl
@[simp] theorem State.mapKeys_former (s : State) (f : Keys → Keys) :
    (s.mapKeys f).former = s.former := rfl
@[simp] theorem State.mapKeys_ring (s : State) (f : Keys → Keys) :
    (s.mapKeys f).ring = s.ring := rfl
@[simp] theorem State.mapKeys_dict (s : State) (f : Keys → Keys) :
    (s.mapKeys f).dict = s.dict := rfl
@[simp] theorem State.mapKeys_engine (s : State) (f : Keys → Keys) :
    (s.mapKeys f).engine = s.engine := rfl
@[simp] theorem State.mapKeys_stream (s : State) (f : Keys → Keys) :
    (s.mapKeys f).stream = s.stream := rfl
@[simp] theorem State.mapKeys_feeds (s : State) (f : Keys → Keys) :
    (s.mapKeys f).feeds = s.feeds := rfl
@[simp] theorem State.mapKeys_journal (s : State) (f : Keys → Keys) :
    (s.mapKeys f).journal = s.journal := rfl
@[simp] theorem State.mapKeys_port (s : State) (f : Keys → Keys) :
    (s.mapKeys f).port = s.port := rfl
@[simp] theorem State.mapKeys_device (s : State) (f : Keys → Keys) :
    (s.mapKeys f).device = s.device := rfl
@[simp] theorem State.mapKeys_job (s : State) (f : Keys → Keys) :
    (s.mapKeys f).job = s.job := rfl
@[simp] theorem State.mapKeys_link (s : State) (f : Keys → Keys) :
    (s.mapKeys f).link = s.link := rfl
@[simp] theorem State.mapKeys_params (s : State) (f : Keys → Keys) :
    (s.mapKeys f).params = s.params := rfl
@[simp] theorem State.mapKeys_boot (s : State) (f : Keys → Keys) :
    (s.mapKeys f).boot = s.boot := rfl
@[simp] theorem State.mapKeys_presence (s : State) (f : Keys → Keys) :
    (s.mapKeys f).presence = s.presence := rfl
@[simp] theorem State.mapKeys_now (s : State) (f : Keys → Keys) :
    (s.mapKeys f).now = s.now := rfl
@[simp] theorem State.mapKeys_pending (s : State) (f : Keys → Keys) :
    (s.mapKeys f).pending = s.pending := rfl

/-! ### mapFormer -/

@[simp] theorem State.mapFormer_keys (s : State) (f : StrokeFormer → StrokeFormer) :
    (s.mapFormer f).keys = s.keys := rfl
@[simp] theorem State.mapFormer_former (s : State) (f : StrokeFormer → StrokeFormer) :
    (s.mapFormer f).former = f s.former := rfl
@[simp] theorem State.mapFormer_ring (s : State) (f : StrokeFormer → StrokeFormer) :
    (s.mapFormer f).ring = s.ring := rfl
@[simp] theorem State.mapFormer_dict (s : State) (f : StrokeFormer → StrokeFormer) :
    (s.mapFormer f).dict = s.dict := rfl
@[simp] theorem State.mapFormer_engine (s : State) (f : StrokeFormer → StrokeFormer) :
    (s.mapFormer f).engine = s.engine := rfl
@[simp] theorem State.mapFormer_stream (s : State) (f : StrokeFormer → StrokeFormer) :
    (s.mapFormer f).stream = s.stream := rfl
@[simp] theorem State.mapFormer_feeds (s : State) (f : StrokeFormer → StrokeFormer) :
    (s.mapFormer f).feeds = s.feeds := rfl
@[simp] theorem State.mapFormer_journal (s : State) (f : StrokeFormer → StrokeFormer) :
    (s.mapFormer f).journal = s.journal := rfl
@[simp] theorem State.mapFormer_port (s : State) (f : StrokeFormer → StrokeFormer) :
    (s.mapFormer f).port = s.port := rfl
@[simp] theorem State.mapFormer_device (s : State) (f : StrokeFormer → StrokeFormer) :
    (s.mapFormer f).device = s.device := rfl
@[simp] theorem State.mapFormer_job (s : State) (f : StrokeFormer → StrokeFormer) :
    (s.mapFormer f).job = s.job := rfl
@[simp] theorem State.mapFormer_link (s : State) (f : StrokeFormer → StrokeFormer) :
    (s.mapFormer f).link = s.link := rfl
@[simp] theorem State.mapFormer_params (s : State) (f : StrokeFormer → StrokeFormer) :
    (s.mapFormer f).params = s.params := rfl
@[simp] theorem State.mapFormer_boot (s : State) (f : StrokeFormer → StrokeFormer) :
    (s.mapFormer f).boot = s.boot := rfl
@[simp] theorem State.mapFormer_presence (s : State) (f : StrokeFormer → StrokeFormer) :
    (s.mapFormer f).presence = s.presence := rfl
@[simp] theorem State.mapFormer_now (s : State) (f : StrokeFormer → StrokeFormer) :
    (s.mapFormer f).now = s.now := rfl
@[simp] theorem State.mapFormer_pending (s : State) (f : StrokeFormer → StrokeFormer) :
    (s.mapFormer f).pending = s.pending := rfl

/-! ### mapRing -/

@[simp] theorem State.mapRing_keys (s : State) (f : Ring → Ring) :
    (s.mapRing f).keys = s.keys := rfl
@[simp] theorem State.mapRing_former (s : State) (f : Ring → Ring) :
    (s.mapRing f).former = s.former := rfl
@[simp] theorem State.mapRing_ring (s : State) (f : Ring → Ring) :
    (s.mapRing f).ring = f s.ring := rfl
@[simp] theorem State.mapRing_dict (s : State) (f : Ring → Ring) :
    (s.mapRing f).dict = s.dict := rfl
@[simp] theorem State.mapRing_engine (s : State) (f : Ring → Ring) :
    (s.mapRing f).engine = s.engine := rfl
@[simp] theorem State.mapRing_stream (s : State) (f : Ring → Ring) :
    (s.mapRing f).stream = s.stream := rfl
@[simp] theorem State.mapRing_feeds (s : State) (f : Ring → Ring) :
    (s.mapRing f).feeds = s.feeds := rfl
@[simp] theorem State.mapRing_journal (s : State) (f : Ring → Ring) :
    (s.mapRing f).journal = s.journal := rfl
@[simp] theorem State.mapRing_port (s : State) (f : Ring → Ring) :
    (s.mapRing f).port = s.port := rfl
@[simp] theorem State.mapRing_device (s : State) (f : Ring → Ring) :
    (s.mapRing f).device = s.device := rfl
@[simp] theorem State.mapRing_job (s : State) (f : Ring → Ring) :
    (s.mapRing f).job = s.job := rfl
@[simp] theorem State.mapRing_link (s : State) (f : Ring → Ring) :
    (s.mapRing f).link = s.link := rfl
@[simp] theorem State.mapRing_params (s : State) (f : Ring → Ring) :
    (s.mapRing f).params = s.params := rfl
@[simp] theorem State.mapRing_boot (s : State) (f : Ring → Ring) :
    (s.mapRing f).boot = s.boot := rfl
@[simp] theorem State.mapRing_presence (s : State) (f : Ring → Ring) :
    (s.mapRing f).presence = s.presence := rfl
@[simp] theorem State.mapRing_now (s : State) (f : Ring → Ring) :
    (s.mapRing f).now = s.now := rfl
@[simp] theorem State.mapRing_pending (s : State) (f : Ring → Ring) :
    (s.mapRing f).pending = s.pending := rfl

/-! ### mapDict -/

@[simp] theorem State.mapDict_keys (s : State) (f : Dict → Dict) :
    (s.mapDict f).keys = s.keys := rfl
@[simp] theorem State.mapDict_former (s : State) (f : Dict → Dict) :
    (s.mapDict f).former = s.former := rfl
@[simp] theorem State.mapDict_ring (s : State) (f : Dict → Dict) :
    (s.mapDict f).ring = s.ring := rfl
@[simp] theorem State.mapDict_dict (s : State) (f : Dict → Dict) :
    (s.mapDict f).dict = f s.dict := rfl
@[simp] theorem State.mapDict_engine (s : State) (f : Dict → Dict) :
    (s.mapDict f).engine = s.engine := rfl
@[simp] theorem State.mapDict_stream (s : State) (f : Dict → Dict) :
    (s.mapDict f).stream = s.stream := rfl
@[simp] theorem State.mapDict_feeds (s : State) (f : Dict → Dict) :
    (s.mapDict f).feeds = s.feeds := rfl
@[simp] theorem State.mapDict_journal (s : State) (f : Dict → Dict) :
    (s.mapDict f).journal = s.journal := rfl
@[simp] theorem State.mapDict_port (s : State) (f : Dict → Dict) :
    (s.mapDict f).port = s.port := rfl
@[simp] theorem State.mapDict_device (s : State) (f : Dict → Dict) :
    (s.mapDict f).device = s.device := rfl
@[simp] theorem State.mapDict_job (s : State) (f : Dict → Dict) :
    (s.mapDict f).job = s.job := rfl
@[simp] theorem State.mapDict_link (s : State) (f : Dict → Dict) :
    (s.mapDict f).link = s.link := rfl
@[simp] theorem State.mapDict_params (s : State) (f : Dict → Dict) :
    (s.mapDict f).params = s.params := rfl
@[simp] theorem State.mapDict_boot (s : State) (f : Dict → Dict) :
    (s.mapDict f).boot = s.boot := rfl
@[simp] theorem State.mapDict_presence (s : State) (f : Dict → Dict) :
    (s.mapDict f).presence = s.presence := rfl
@[simp] theorem State.mapDict_now (s : State) (f : Dict → Dict) :
    (s.mapDict f).now = s.now := rfl
@[simp] theorem State.mapDict_pending (s : State) (f : Dict → Dict) :
    (s.mapDict f).pending = s.pending := rfl

/-! ### mapEngine -/

@[simp] theorem State.mapEngine_keys (s : State) (f : Engine → Engine) :
    (s.mapEngine f).keys = s.keys := rfl
@[simp] theorem State.mapEngine_former (s : State) (f : Engine → Engine) :
    (s.mapEngine f).former = s.former := rfl
@[simp] theorem State.mapEngine_ring (s : State) (f : Engine → Engine) :
    (s.mapEngine f).ring = s.ring := rfl
@[simp] theorem State.mapEngine_dict (s : State) (f : Engine → Engine) :
    (s.mapEngine f).dict = s.dict := rfl
@[simp] theorem State.mapEngine_engine (s : State) (f : Engine → Engine) :
    (s.mapEngine f).engine = f s.engine := rfl
@[simp] theorem State.mapEngine_stream (s : State) (f : Engine → Engine) :
    (s.mapEngine f).stream = s.stream := rfl
@[simp] theorem State.mapEngine_feeds (s : State) (f : Engine → Engine) :
    (s.mapEngine f).feeds = s.feeds := rfl
@[simp] theorem State.mapEngine_journal (s : State) (f : Engine → Engine) :
    (s.mapEngine f).journal = s.journal := rfl
@[simp] theorem State.mapEngine_port (s : State) (f : Engine → Engine) :
    (s.mapEngine f).port = s.port := rfl
@[simp] theorem State.mapEngine_device (s : State) (f : Engine → Engine) :
    (s.mapEngine f).device = s.device := rfl
@[simp] theorem State.mapEngine_job (s : State) (f : Engine → Engine) :
    (s.mapEngine f).job = s.job := rfl
@[simp] theorem State.mapEngine_link (s : State) (f : Engine → Engine) :
    (s.mapEngine f).link = s.link := rfl
@[simp] theorem State.mapEngine_params (s : State) (f : Engine → Engine) :
    (s.mapEngine f).params = s.params := rfl
@[simp] theorem State.mapEngine_boot (s : State) (f : Engine → Engine) :
    (s.mapEngine f).boot = s.boot := rfl
@[simp] theorem State.mapEngine_presence (s : State) (f : Engine → Engine) :
    (s.mapEngine f).presence = s.presence := rfl
@[simp] theorem State.mapEngine_now (s : State) (f : Engine → Engine) :
    (s.mapEngine f).now = s.now := rfl
@[simp] theorem State.mapEngine_pending (s : State) (f : Engine → Engine) :
    (s.mapEngine f).pending = s.pending := rfl

/-! ### mapStream -/

@[simp] theorem State.mapStream_keys (s : State) (f : Stream → Stream) :
    (s.mapStream f).keys = s.keys := rfl
@[simp] theorem State.mapStream_former (s : State) (f : Stream → Stream) :
    (s.mapStream f).former = s.former := rfl
@[simp] theorem State.mapStream_ring (s : State) (f : Stream → Stream) :
    (s.mapStream f).ring = s.ring := rfl
@[simp] theorem State.mapStream_dict (s : State) (f : Stream → Stream) :
    (s.mapStream f).dict = s.dict := rfl
@[simp] theorem State.mapStream_engine (s : State) (f : Stream → Stream) :
    (s.mapStream f).engine = s.engine := rfl
@[simp] theorem State.mapStream_stream (s : State) (f : Stream → Stream) :
    (s.mapStream f).stream = f s.stream := rfl
@[simp] theorem State.mapStream_feeds (s : State) (f : Stream → Stream) :
    (s.mapStream f).feeds = s.feeds := rfl
@[simp] theorem State.mapStream_journal (s : State) (f : Stream → Stream) :
    (s.mapStream f).journal = s.journal := rfl
@[simp] theorem State.mapStream_port (s : State) (f : Stream → Stream) :
    (s.mapStream f).port = s.port := rfl
@[simp] theorem State.mapStream_device (s : State) (f : Stream → Stream) :
    (s.mapStream f).device = s.device := rfl
@[simp] theorem State.mapStream_job (s : State) (f : Stream → Stream) :
    (s.mapStream f).job = s.job := rfl
@[simp] theorem State.mapStream_link (s : State) (f : Stream → Stream) :
    (s.mapStream f).link = s.link := rfl
@[simp] theorem State.mapStream_params (s : State) (f : Stream → Stream) :
    (s.mapStream f).params = s.params := rfl
@[simp] theorem State.mapStream_boot (s : State) (f : Stream → Stream) :
    (s.mapStream f).boot = s.boot := rfl
@[simp] theorem State.mapStream_presence (s : State) (f : Stream → Stream) :
    (s.mapStream f).presence = s.presence := rfl
@[simp] theorem State.mapStream_now (s : State) (f : Stream → Stream) :
    (s.mapStream f).now = s.now := rfl
@[simp] theorem State.mapStream_pending (s : State) (f : Stream → Stream) :
    (s.mapStream f).pending = s.pending := rfl

/-! ### mapFeeds -/

@[simp] theorem State.mapFeeds_keys (s : State) (f : Feeds → Feeds) :
    (s.mapFeeds f).keys = s.keys := rfl
@[simp] theorem State.mapFeeds_former (s : State) (f : Feeds → Feeds) :
    (s.mapFeeds f).former = s.former := rfl
@[simp] theorem State.mapFeeds_ring (s : State) (f : Feeds → Feeds) :
    (s.mapFeeds f).ring = s.ring := rfl
@[simp] theorem State.mapFeeds_dict (s : State) (f : Feeds → Feeds) :
    (s.mapFeeds f).dict = s.dict := rfl
@[simp] theorem State.mapFeeds_engine (s : State) (f : Feeds → Feeds) :
    (s.mapFeeds f).engine = s.engine := rfl
@[simp] theorem State.mapFeeds_stream (s : State) (f : Feeds → Feeds) :
    (s.mapFeeds f).stream = s.stream := rfl
@[simp] theorem State.mapFeeds_feeds (s : State) (f : Feeds → Feeds) :
    (s.mapFeeds f).feeds = f s.feeds := rfl
@[simp] theorem State.mapFeeds_journal (s : State) (f : Feeds → Feeds) :
    (s.mapFeeds f).journal = s.journal := rfl
@[simp] theorem State.mapFeeds_port (s : State) (f : Feeds → Feeds) :
    (s.mapFeeds f).port = s.port := rfl
@[simp] theorem State.mapFeeds_device (s : State) (f : Feeds → Feeds) :
    (s.mapFeeds f).device = s.device := rfl
@[simp] theorem State.mapFeeds_job (s : State) (f : Feeds → Feeds) :
    (s.mapFeeds f).job = s.job := rfl
@[simp] theorem State.mapFeeds_link (s : State) (f : Feeds → Feeds) :
    (s.mapFeeds f).link = s.link := rfl
@[simp] theorem State.mapFeeds_params (s : State) (f : Feeds → Feeds) :
    (s.mapFeeds f).params = s.params := rfl
@[simp] theorem State.mapFeeds_boot (s : State) (f : Feeds → Feeds) :
    (s.mapFeeds f).boot = s.boot := rfl
@[simp] theorem State.mapFeeds_presence (s : State) (f : Feeds → Feeds) :
    (s.mapFeeds f).presence = s.presence := rfl
@[simp] theorem State.mapFeeds_now (s : State) (f : Feeds → Feeds) :
    (s.mapFeeds f).now = s.now := rfl
@[simp] theorem State.mapFeeds_pending (s : State) (f : Feeds → Feeds) :
    (s.mapFeeds f).pending = s.pending := rfl

/-! ### mapJournal -/

@[simp] theorem State.mapJournal_keys (s : State) (f : Journal → Journal) :
    (s.mapJournal f).keys = s.keys := rfl
@[simp] theorem State.mapJournal_former (s : State) (f : Journal → Journal) :
    (s.mapJournal f).former = s.former := rfl
@[simp] theorem State.mapJournal_ring (s : State) (f : Journal → Journal) :
    (s.mapJournal f).ring = s.ring := rfl
@[simp] theorem State.mapJournal_dict (s : State) (f : Journal → Journal) :
    (s.mapJournal f).dict = s.dict := rfl
@[simp] theorem State.mapJournal_engine (s : State) (f : Journal → Journal) :
    (s.mapJournal f).engine = s.engine := rfl
@[simp] theorem State.mapJournal_stream (s : State) (f : Journal → Journal) :
    (s.mapJournal f).stream = s.stream := rfl
@[simp] theorem State.mapJournal_feeds (s : State) (f : Journal → Journal) :
    (s.mapJournal f).feeds = s.feeds := rfl
@[simp] theorem State.mapJournal_journal (s : State) (f : Journal → Journal) :
    (s.mapJournal f).journal = f s.journal := rfl
@[simp] theorem State.mapJournal_port (s : State) (f : Journal → Journal) :
    (s.mapJournal f).port = s.port := rfl
@[simp] theorem State.mapJournal_device (s : State) (f : Journal → Journal) :
    (s.mapJournal f).device = s.device := rfl
@[simp] theorem State.mapJournal_job (s : State) (f : Journal → Journal) :
    (s.mapJournal f).job = s.job := rfl
@[simp] theorem State.mapJournal_link (s : State) (f : Journal → Journal) :
    (s.mapJournal f).link = s.link := rfl
@[simp] theorem State.mapJournal_params (s : State) (f : Journal → Journal) :
    (s.mapJournal f).params = s.params := rfl
@[simp] theorem State.mapJournal_boot (s : State) (f : Journal → Journal) :
    (s.mapJournal f).boot = s.boot := rfl
@[simp] theorem State.mapJournal_presence (s : State) (f : Journal → Journal) :
    (s.mapJournal f).presence = s.presence := rfl
@[simp] theorem State.mapJournal_now (s : State) (f : Journal → Journal) :
    (s.mapJournal f).now = s.now := rfl
@[simp] theorem State.mapJournal_pending (s : State) (f : Journal → Journal) :
    (s.mapJournal f).pending = s.pending := rfl

/-! ### mapPort -/

@[simp] theorem State.mapPort_keys (s : State) (f : MemPort → MemPort) :
    (s.mapPort f).keys = s.keys := rfl
@[simp] theorem State.mapPort_former (s : State) (f : MemPort → MemPort) :
    (s.mapPort f).former = s.former := rfl
@[simp] theorem State.mapPort_ring (s : State) (f : MemPort → MemPort) :
    (s.mapPort f).ring = s.ring := rfl
@[simp] theorem State.mapPort_dict (s : State) (f : MemPort → MemPort) :
    (s.mapPort f).dict = s.dict := rfl
@[simp] theorem State.mapPort_engine (s : State) (f : MemPort → MemPort) :
    (s.mapPort f).engine = s.engine := rfl
@[simp] theorem State.mapPort_stream (s : State) (f : MemPort → MemPort) :
    (s.mapPort f).stream = s.stream := rfl
@[simp] theorem State.mapPort_feeds (s : State) (f : MemPort → MemPort) :
    (s.mapPort f).feeds = s.feeds := rfl
@[simp] theorem State.mapPort_journal (s : State) (f : MemPort → MemPort) :
    (s.mapPort f).journal = s.journal := rfl
@[simp] theorem State.mapPort_port (s : State) (f : MemPort → MemPort) :
    (s.mapPort f).port = f s.port := rfl
@[simp] theorem State.mapPort_device (s : State) (f : MemPort → MemPort) :
    (s.mapPort f).device = s.device := rfl
@[simp] theorem State.mapPort_job (s : State) (f : MemPort → MemPort) :
    (s.mapPort f).job = s.job := rfl
@[simp] theorem State.mapPort_link (s : State) (f : MemPort → MemPort) :
    (s.mapPort f).link = s.link := rfl
@[simp] theorem State.mapPort_params (s : State) (f : MemPort → MemPort) :
    (s.mapPort f).params = s.params := rfl
@[simp] theorem State.mapPort_boot (s : State) (f : MemPort → MemPort) :
    (s.mapPort f).boot = s.boot := rfl
@[simp] theorem State.mapPort_presence (s : State) (f : MemPort → MemPort) :
    (s.mapPort f).presence = s.presence := rfl
@[simp] theorem State.mapPort_now (s : State) (f : MemPort → MemPort) :
    (s.mapPort f).now = s.now := rfl
@[simp] theorem State.mapPort_pending (s : State) (f : MemPort → MemPort) :
    (s.mapPort f).pending = s.pending := rfl

/-! ### mapDevice -/

@[simp] theorem State.mapDevice_keys (s : State) (f : Device → Device) :
    (s.mapDevice f).keys = s.keys := rfl
@[simp] theorem State.mapDevice_former (s : State) (f : Device → Device) :
    (s.mapDevice f).former = s.former := rfl
@[simp] theorem State.mapDevice_ring (s : State) (f : Device → Device) :
    (s.mapDevice f).ring = s.ring := rfl
@[simp] theorem State.mapDevice_dict (s : State) (f : Device → Device) :
    (s.mapDevice f).dict = s.dict := rfl
@[simp] theorem State.mapDevice_engine (s : State) (f : Device → Device) :
    (s.mapDevice f).engine = s.engine := rfl
@[simp] theorem State.mapDevice_stream (s : State) (f : Device → Device) :
    (s.mapDevice f).stream = s.stream := rfl
@[simp] theorem State.mapDevice_feeds (s : State) (f : Device → Device) :
    (s.mapDevice f).feeds = s.feeds := rfl
@[simp] theorem State.mapDevice_journal (s : State) (f : Device → Device) :
    (s.mapDevice f).journal = s.journal := rfl
@[simp] theorem State.mapDevice_port (s : State) (f : Device → Device) :
    (s.mapDevice f).port = s.port := rfl
@[simp] theorem State.mapDevice_device (s : State) (f : Device → Device) :
    (s.mapDevice f).device = f s.device := rfl
@[simp] theorem State.mapDevice_job (s : State) (f : Device → Device) :
    (s.mapDevice f).job = s.job := rfl
@[simp] theorem State.mapDevice_link (s : State) (f : Device → Device) :
    (s.mapDevice f).link = s.link := rfl
@[simp] theorem State.mapDevice_params (s : State) (f : Device → Device) :
    (s.mapDevice f).params = s.params := rfl
@[simp] theorem State.mapDevice_boot (s : State) (f : Device → Device) :
    (s.mapDevice f).boot = s.boot := rfl
@[simp] theorem State.mapDevice_presence (s : State) (f : Device → Device) :
    (s.mapDevice f).presence = s.presence := rfl
@[simp] theorem State.mapDevice_now (s : State) (f : Device → Device) :
    (s.mapDevice f).now = s.now := rfl
@[simp] theorem State.mapDevice_pending (s : State) (f : Device → Device) :
    (s.mapDevice f).pending = s.pending := rfl

/-! ### mapJob -/

@[simp] theorem State.mapJob_keys (s : State) (f : Job → Job) :
    (s.mapJob f).keys = s.keys := rfl
@[simp] theorem State.mapJob_former (s : State) (f : Job → Job) :
    (s.mapJob f).former = s.former := rfl
@[simp] theorem State.mapJob_ring (s : State) (f : Job → Job) :
    (s.mapJob f).ring = s.ring := rfl
@[simp] theorem State.mapJob_dict (s : State) (f : Job → Job) :
    (s.mapJob f).dict = s.dict := rfl
@[simp] theorem State.mapJob_engine (s : State) (f : Job → Job) :
    (s.mapJob f).engine = s.engine := rfl
@[simp] theorem State.mapJob_stream (s : State) (f : Job → Job) :
    (s.mapJob f).stream = s.stream := rfl
@[simp] theorem State.mapJob_feeds (s : State) (f : Job → Job) :
    (s.mapJob f).feeds = s.feeds := rfl
@[simp] theorem State.mapJob_journal (s : State) (f : Job → Job) :
    (s.mapJob f).journal = s.journal := rfl
@[simp] theorem State.mapJob_port (s : State) (f : Job → Job) :
    (s.mapJob f).port = s.port := rfl
@[simp] theorem State.mapJob_device (s : State) (f : Job → Job) :
    (s.mapJob f).device = s.device := rfl
@[simp] theorem State.mapJob_job (s : State) (f : Job → Job) :
    (s.mapJob f).job = f s.job := rfl
@[simp] theorem State.mapJob_link (s : State) (f : Job → Job) :
    (s.mapJob f).link = s.link := rfl
@[simp] theorem State.mapJob_params (s : State) (f : Job → Job) :
    (s.mapJob f).params = s.params := rfl
@[simp] theorem State.mapJob_boot (s : State) (f : Job → Job) :
    (s.mapJob f).boot = s.boot := rfl
@[simp] theorem State.mapJob_presence (s : State) (f : Job → Job) :
    (s.mapJob f).presence = s.presence := rfl
@[simp] theorem State.mapJob_now (s : State) (f : Job → Job) :
    (s.mapJob f).now = s.now := rfl
@[simp] theorem State.mapJob_pending (s : State) (f : Job → Job) :
    (s.mapJob f).pending = s.pending := rfl

/-! ### mapLink -/

@[simp] theorem State.mapLink_keys (s : State) (f : Link → Link) :
    (s.mapLink f).keys = s.keys := rfl
@[simp] theorem State.mapLink_former (s : State) (f : Link → Link) :
    (s.mapLink f).former = s.former := rfl
@[simp] theorem State.mapLink_ring (s : State) (f : Link → Link) :
    (s.mapLink f).ring = s.ring := rfl
@[simp] theorem State.mapLink_dict (s : State) (f : Link → Link) :
    (s.mapLink f).dict = s.dict := rfl
@[simp] theorem State.mapLink_engine (s : State) (f : Link → Link) :
    (s.mapLink f).engine = s.engine := rfl
@[simp] theorem State.mapLink_stream (s : State) (f : Link → Link) :
    (s.mapLink f).stream = s.stream := rfl
@[simp] theorem State.mapLink_feeds (s : State) (f : Link → Link) :
    (s.mapLink f).feeds = s.feeds := rfl
@[simp] theorem State.mapLink_journal (s : State) (f : Link → Link) :
    (s.mapLink f).journal = s.journal := rfl
@[simp] theorem State.mapLink_port (s : State) (f : Link → Link) :
    (s.mapLink f).port = s.port := rfl
@[simp] theorem State.mapLink_device (s : State) (f : Link → Link) :
    (s.mapLink f).device = s.device := rfl
@[simp] theorem State.mapLink_job (s : State) (f : Link → Link) :
    (s.mapLink f).job = s.job := rfl
@[simp] theorem State.mapLink_link (s : State) (f : Link → Link) :
    (s.mapLink f).link = f s.link := rfl
@[simp] theorem State.mapLink_params (s : State) (f : Link → Link) :
    (s.mapLink f).params = s.params := rfl
@[simp] theorem State.mapLink_boot (s : State) (f : Link → Link) :
    (s.mapLink f).boot = s.boot := rfl
@[simp] theorem State.mapLink_presence (s : State) (f : Link → Link) :
    (s.mapLink f).presence = s.presence := rfl
@[simp] theorem State.mapLink_now (s : State) (f : Link → Link) :
    (s.mapLink f).now = s.now := rfl
@[simp] theorem State.mapLink_pending (s : State) (f : Link → Link) :
    (s.mapLink f).pending = s.pending := rfl

/-! ### mapParams -/

@[simp] theorem State.mapParams_keys (s : State) (f : Params → Params) :
    (s.mapParams f).keys = s.keys := rfl
@[simp] theorem State.mapParams_former (s : State) (f : Params → Params) :
    (s.mapParams f).former = s.former := rfl
@[simp] theorem State.mapParams_ring (s : State) (f : Params → Params) :
    (s.mapParams f).ring = s.ring := rfl
@[simp] theorem State.mapParams_dict (s : State) (f : Params → Params) :
    (s.mapParams f).dict = s.dict := rfl
@[simp] theorem State.mapParams_engine (s : State) (f : Params → Params) :
    (s.mapParams f).engine = s.engine := rfl
@[simp] theorem State.mapParams_stream (s : State) (f : Params → Params) :
    (s.mapParams f).stream = s.stream := rfl
@[simp] theorem State.mapParams_feeds (s : State) (f : Params → Params) :
    (s.mapParams f).feeds = s.feeds := rfl
@[simp] theorem State.mapParams_journal (s : State) (f : Params → Params) :
    (s.mapParams f).journal = s.journal := rfl
@[simp] theorem State.mapParams_port (s : State) (f : Params → Params) :
    (s.mapParams f).port = s.port := rfl
@[simp] theorem State.mapParams_device (s : State) (f : Params → Params) :
    (s.mapParams f).device = s.device := rfl
@[simp] theorem State.mapParams_job (s : State) (f : Params → Params) :
    (s.mapParams f).job = s.job := rfl
@[simp] theorem State.mapParams_link (s : State) (f : Params → Params) :
    (s.mapParams f).link = s.link := rfl
@[simp] theorem State.mapParams_params (s : State) (f : Params → Params) :
    (s.mapParams f).params = f s.params := rfl
@[simp] theorem State.mapParams_boot (s : State) (f : Params → Params) :
    (s.mapParams f).boot = s.boot := rfl
@[simp] theorem State.mapParams_presence (s : State) (f : Params → Params) :
    (s.mapParams f).presence = s.presence := rfl
@[simp] theorem State.mapParams_now (s : State) (f : Params → Params) :
    (s.mapParams f).now = s.now := rfl
@[simp] theorem State.mapParams_pending (s : State) (f : Params → Params) :
    (s.mapParams f).pending = s.pending := rfl

/-! ### setBoot -/

@[simp] theorem State.setBoot_keys (s : State) (b : BootStep) : (s.setBoot b).keys = s.keys := rfl
@[simp] theorem State.setBoot_former (s : State) (b : BootStep) : (s.setBoot b).former = s.former := rfl
@[simp] theorem State.setBoot_ring (s : State) (b : BootStep) : (s.setBoot b).ring = s.ring := rfl
@[simp] theorem State.setBoot_dict (s : State) (b : BootStep) : (s.setBoot b).dict = s.dict := rfl
@[simp] theorem State.setBoot_engine (s : State) (b : BootStep) : (s.setBoot b).engine = s.engine := rfl
@[simp] theorem State.setBoot_stream (s : State) (b : BootStep) : (s.setBoot b).stream = s.stream := rfl
@[simp] theorem State.setBoot_feeds (s : State) (b : BootStep) : (s.setBoot b).feeds = s.feeds := rfl
@[simp] theorem State.setBoot_journal (s : State) (b : BootStep) : (s.setBoot b).journal = s.journal := rfl
@[simp] theorem State.setBoot_port (s : State) (b : BootStep) : (s.setBoot b).port = s.port := rfl
@[simp] theorem State.setBoot_device (s : State) (b : BootStep) : (s.setBoot b).device = s.device := rfl
@[simp] theorem State.setBoot_job (s : State) (b : BootStep) : (s.setBoot b).job = s.job := rfl
@[simp] theorem State.setBoot_link (s : State) (b : BootStep) : (s.setBoot b).link = s.link := rfl
@[simp] theorem State.setBoot_params (s : State) (b : BootStep) : (s.setBoot b).params = s.params := rfl
@[simp] theorem State.setBoot_boot (s : State) (b : BootStep) : (s.setBoot b).boot = b := rfl
@[simp] theorem State.setBoot_presence (s : State) (b : BootStep) : (s.setBoot b).presence = s.presence := rfl
@[simp] theorem State.setBoot_now (s : State) (b : BootStep) : (s.setBoot b).now = s.now := rfl
@[simp] theorem State.setBoot_pending (s : State) (b : BootStep) : (s.setBoot b).pending = s.pending := rfl

/-! ### tick -/

@[simp] theorem State.tick_keys (s : State) : s.tick.keys = s.keys := rfl
@[simp] theorem State.tick_former (s : State) : s.tick.former = { s.former with jobClock := s.former.jobClock + 1 } := rfl
@[simp] theorem State.tick_ring (s : State) : s.tick.ring = s.ring := rfl
@[simp] theorem State.tick_dict (s : State) : s.tick.dict = s.dict := rfl
@[simp] theorem State.tick_engine (s : State) : s.tick.engine = s.engine := rfl
@[simp] theorem State.tick_stream (s : State) : s.tick.stream = s.stream := rfl
@[simp] theorem State.tick_feeds (s : State) : s.tick.feeds = s.feeds := rfl
@[simp] theorem State.tick_journal (s : State) : s.tick.journal = s.journal := rfl
@[simp] theorem State.tick_port (s : State) : s.tick.port = s.port := rfl
@[simp] theorem State.tick_device (s : State) : s.tick.device = s.device := rfl
@[simp] theorem State.tick_job (s : State) : s.tick.job = s.job := rfl
@[simp] theorem State.tick_link (s : State) : s.tick.link = s.link := rfl
@[simp] theorem State.tick_params (s : State) : s.tick.params = s.params := rfl
@[simp] theorem State.tick_boot (s : State) : s.tick.boot = s.boot := rfl
@[simp] theorem State.tick_presence (s : State) : s.tick.presence = s.presence := rfl
@[simp] theorem State.tick_now (s : State) : s.tick.now = s.now + 1 := rfl
@[simp] theorem State.tick_pending (s : State) : s.tick.pending = s.pending := rfl

/-! ### The append point -/

/-- Setting the append point changes it and slotSpent alone. -/
theorem Journal.setAppend_eq (j : Journal) (n : Nat) :
    j.setAppend n = { j with appendPoint := n, slotSpent := false } := rfl
@[simp] theorem Journal.setAppend_appendPoint (j : Journal) (n : Nat) : (j.setAppend n).appendPoint = n := rfl
@[simp] theorem Journal.setAppend_slotSpent (j : Journal) (n : Nat) : (j.setAppend n).slotSpent = false := rfl
@[simp] theorem Journal.setAppend_op (j : Journal) (n : Nat) : (j.setAppend n).op = j.op := rfl
@[simp] theorem Journal.setAppend_mode (j : Journal) (n : Nat) : (j.setAppend n).mode = j.mode := rfl
@[simp] theorem Journal.setAppend_current (j : Journal) (n : Nat) : (j.setAppend n).current = j.current := rfl

end Sys2Proof.Machine
end

