-- ==== Sys2Proof/Laws/Link.lean ====
section
/-! SUPPORT. What taking and answering a request do, each said once. -/

namespace Sys2Proof.Machine

theorem State.mapLink_mapLink (s : State) (f g : Link → Link) :
    (s.mapLink f).mapLink g = s.mapLink fun l => g (f l) := rfl

/-- A reply joins the end of the queue, and ATTN is asserted (R182, R183). -/
theorem reply_eq (kind tag : Byte) (code : ReplyCode) (fields : List Byte) (s : State) :
    reply kind tag code fields s =
      s.mapLink fun l => l.withReply s.now kind tag (replyCodeByte code :: fields) := by
  simp [reply, enqueue, testAttn, attnWanted, State.mapLink, Link.withReply]

theorem answer_eq (r : Request) (code : ReplyCode) (fields : List Byte) (s : State) :
    answer r code fields s =
      s.mapLink fun l => l.withReply s.now r.kind r.tag (replyCodeByte code :: fields) := by
  rw [answer, reply_eq]

/-- A request that is taken and has the right length reaches its owner (R180). -/
theorem takeRequest_serves {kind tag : Byte} {payload : List Byte} {fixed : Option Nat}
    {owner : Request → List Byte → State → State} {s : State} (h : s.serves tag)
    (hl : fixed.all (· == payload.length) = true) :
    takeRequest kind tag payload fixed owner s =
      owner ⟨kind, tag⟩ payload (s.mapLink Link.withTaken) := by
  obtain ⟨⟨h1, h2⟩, h3⟩ := h
  have e1 : ¬ (s.link.outstanding ≥ Config.outstandingRequests) := by
    simp only [Config.outstandingRequests]; omega
  have e2 : (fixed.any (· != payload.length)) = false := by cases fixed <;> simp_all
  have h2' : (tag == 0) = false := by simpa using h2
  simp only [takeRequest, endFrame, State.mapLink, e1, h2', e2]
  simp [h3, Link.withTaken]

/-- A request of fixed length with another length is answered BAD_LENGTH (R180). -/
theorem takeRequest_badLength {kind tag : Byte} {payload : List Byte} {n : Nat}
    {owner : Request → List Byte → State → State} {s : State} (h : s.serves tag) (hl : payload.length ≠ n) :
    takeRequest kind tag payload (some n) owner s =
      answer ⟨kind, tag⟩ .badLength [] (s.mapLink Link.withTaken) := by
  obtain ⟨⟨h1, h2⟩, h3⟩ := h
  have e1 : ¬ (s.link.outstanding ≥ Config.outstandingRequests) := by
    simp only [Config.outstandingRequests]; omega
  have h2' : (tag == 0) = false := by simpa using h2
  simp only [takeRequest, endFrame, State.mapLink, e1, h2']
  simp [h3, Ne.symm hl, Link.withTaken]

/-- In BOOTING a request other than IDENTIFY and STATUS is answered BUSY (R180). -/
theorem takeRequest_booting {kind tag : Byte} {payload : List Byte} {fixed : Option Nat}
    {owner : Request → List Byte → State → State} {s : State} (h : s.takes tag) (hb : s.job.state = .booting)
    (hk : kind ≠ kindIdentify ∧ kind ≠ kindStatus) :
    takeRequest kind tag payload fixed owner s =
      answer ⟨kind, tag⟩ .busy [] (s.mapLink Link.withTaken) := by
  obtain ⟨h1, h2⟩ := h
  have e1 : ¬ (s.link.outstanding ≥ Config.outstandingRequests) := by
    simp only [Config.outstandingRequests]; omega
  have h2' : (tag == 0) = false := by simpa using h2
  simp only [takeRequest, endFrame, State.mapLink, e1, h2']
  simp [hb, hk, Link.withTaken]

/-- IDENTIFY and STATUS are taken in every job state (R187). -/
theorem takeRequest_always {kind tag : Byte} {payload : List Byte}
    {owner : Request → List Byte → State → State} {s : State} (h : s.takes tag)
    (hk : kind = kindIdentify ∨ kind = kindStatus) (hl : payload = []) :
    takeRequest kind tag payload (some 0) owner s =
      owner ⟨kind, tag⟩ payload (s.mapLink Link.withTaken) := by
  obtain ⟨h1, h2⟩ := h
  have e1 : ¬ (s.link.outstanding ≥ Config.outstandingRequests) := by
    simp only [Config.outstandingRequests]; omega
  have h2' : (tag == 0) = false := by simpa using h2
  rcases hk with rfl | rfl <;>
    simp only [takeRequest, endFrame, State.mapLink, e1, h2'] <;>
    simp [hl, Link.withTaken, kindIdentify, kindStatus]

/-- The whole of a request that its owner answers in the step of taking, with nothing else changed. -/
theorem answer_taken (kind tag : Byte) (code : ReplyCode) (fields : List Byte) (s : State) :
    answer ⟨kind, tag⟩ code fields (s.mapLink Link.withTaken) =
      { s with link := s.answered kind tag (replyCodeByte code :: fields) } := by
  rw [answer_eq]; rfl

/-- Everything a frame's taking can do (R180): it is discarded and counted, answered by the link controller,
or handed to its owner. -/
theorem takeRequest_cases (kind tag : Byte) (payload : List Byte) (fixed : Option Nat)
    (owner : Request → List Byte → State → State) (s : State) :
    takeRequest kind tag payload fixed owner s = countLinkFault (endFrame s) ∨
      takeRequest kind tag payload fixed owner s =
        answer ⟨kind, tag⟩ .busy [] (s.mapLink Link.withTaken) ∨
      takeRequest kind tag payload fixed owner s =
        answer ⟨kind, tag⟩ .badLength [] (s.mapLink Link.withTaken) ∨
      takeRequest kind tag payload fixed owner s =
        owner ⟨kind, tag⟩ payload (s.mapLink Link.withTaken) := by
  simp only [takeRequest]
  split
  · exact .inl rfl
  · split
    · exact .inr (.inl rfl)
    · split
      · exact .inr (.inr (.inl rfl))
      · exact .inr (.inr (.inr rfl))

/-! ## Conditions (R184) -/

theorem enqueue_link (r : Bool) (k t : Byte) (p : List Byte) (s : State) :
    enqueue r k t p s = { s with link := (enqueue r k t p s).link } := rfl

theorem notifyCondition_link (c : Condition) (s : State) :
    notifyCondition c s = { s with link := (notifyCondition c s).link } := by
  unfold notifyCondition
  dsimp only
  split
  · rfl
  · split <;> rfl

/-- Raising a condition changes the link controller alone. -/
theorem raise_link (c : Condition) (s : State) : raise c s = { s with link := (raise c s).link } := by
  unfold raise; rw [notifyCondition_link]; rfl

/-- Notifying a condition leaves the link controller's own counts, framer and pending set as they are. -/
theorem notifyCondition_kept (c : Condition) (s : State) :
    (notifyCondition c s).link.conditionsPending = s.link.conditionsPending ∧
      (notifyCondition c s).link.framer = s.link.framer ∧
      (notifyCondition c s).link.linkFaults = s.link.linkFaults ∧
      (notifyCondition c s).link.outstanding = s.link.outstanding := by
  unfold notifyCondition
  dsimp only
  split
  · exact ⟨rfl, rfl, rfl, rfl⟩
  · split <;> exact ⟨rfl, rfl, rfl, rfl⟩

/-- Raising a condition makes it pending, and no other. -/
theorem raise_pending (c : Condition) (s : State) :
    (raise c s).link.conditionsPending = s.link.conditionsPending ||| c.bit :=
  (notifyCondition_kept c _).1

theorem raise_framer (c : Condition) (s : State) : (raise c s).link.framer = s.link.framer :=
  (notifyCondition_kept c _).2.1

theorem raise_linkFaults (c : Condition) (s : State) : (raise c s).link.linkFaults = s.link.linkFaults :=
  (notifyCondition_kept c _).2.2.1

theorem raise_outstanding (c : Condition) (s : State) : (raise c s).link.outstanding = s.link.outstanding :=
  (notifyCondition_kept c _).2.2.2

/-- Raising a condition that is already notified leaves the queue as it is, whatever else it does. -/
theorem raise_again (c : Condition) (s : State) (h : hasFlag s.link.notified c.bit = true) :
    raise c s = s.mapLink fun l => { l with conditionsPending := l.conditionsPending ||| c.bit } := by
  unfold raise notifyCondition
  simp [State.mapLink, h]

theorem countLinkFault_link (s : State) : countLinkFault s = { s with link := (countLinkFault s).link } := by
  unfold countLinkFault; rw [raise_link]; rfl

/-- A fault counted in the memory fault count changes the count and the link controller alone. -/
theorem countMemoryFault_link (s : State) :
    countMemoryFault s =
      { s with
        port := { s.port with faultCount := satIncr max32 s.port.faultCount }
        link := (countMemoryFault s).link } := by
  unfold countMemoryFault; rw [raise_link]; rfl

end Sys2Proof.Machine
end

