-- ==== Sys2Proof/Laws/Outside.lean ====
section
/-! SUPPORT. What the blocks' own work never changes: the memory device, the presence pins, the clock, the
queue of commands, the channel table, the parameter store, the overlay, the two fault counts and
the count of outstanding requests. One lemma per shared
operation. -/

namespace Sys2Proof.Machine

/-- What lies around the blocks: the device, the presence pins, the clock and the commands that wait. -/
def State.env (s : State) : Device × Presence × Nat × List Instr := (s.device, s.presence, s.now, s.pending)

/-- The environment, with the channel table, the parameter store, the overlay, the fault counts and the
count of outstanding requests. -/
def State.outside (s : State) :
    (Device × Presence × Nat × List Instr) × Keys × Params × List OverlayEntry × Nat × Nat × Nat :=
  (s.env, s.keys, s.params, s.dict.overlay, s.port.faultCount, s.link.linkFaults, s.link.outstanding)

/-! ## What the two say of their parts -/

theorem env_eq {s t : State} :
    t.env = s.env ↔ t.device = s.device ∧ t.presence = s.presence ∧ t.now = s.now ∧ t.pending = s.pending := by
  simp [State.env]

theorem outside_eq {s t : State} :
    t.outside = s.outside ↔ t.env = s.env ∧ t.keys = s.keys ∧ t.params = s.params ∧
      t.dict.overlay = s.dict.overlay ∧ t.port.faultCount = s.port.faultCount ∧
      t.link.linkFaults = s.link.linkFaults ∧ t.link.outstanding = s.link.outstanding := by
  simp [State.outside]

theorem env_of_outside {s t : State} (h : t.outside = s.outside) : t.env = s.env := (outside_eq.1 h).1

theorem ite_outside (c : Prop) {h : Decidable c} (a b : State) :
    (if c then a else b).outside = if c then a.outside else b.outside := by split <;> rfl

theorem ite_env (c : Prop) {h : Decidable c} (a b : State) :
    (if c then a else b).env = if c then a.env else b.env := by split <;> rfl

/-! ## Updates -/

@[simp] theorem mapFormer_outside (s : State) (f) : (s.mapFormer f).outside = s.outside := rfl
@[simp] theorem mapRing_outside (s : State) (f) : (s.mapRing f).outside = s.outside := rfl
@[simp] theorem mapEngine_outside (s : State) (f) : (s.mapEngine f).outside = s.outside := rfl
@[simp] theorem mapStream_outside (s : State) (f) : (s.mapStream f).outside = s.outside := rfl
@[simp] theorem mapFeeds_outside (s : State) (f) : (s.mapFeeds f).outside = s.outside := rfl
@[simp] theorem mapJournal_outside (s : State) (f) : (s.mapJournal f).outside = s.outside := rfl
@[simp] theorem mapJob_outside (s : State) (f) : (s.mapJob f).outside = s.outside := rfl
@[simp] theorem setBoot_outside (s : State) (b) : (s.setBoot b).outside = s.outside := rfl

@[simp] theorem mapPort_outside (s : State) (f : MemPort → MemPort)
    (h : (f s.port).faultCount = s.port.faultCount) : (s.mapPort f).outside = s.outside := by
  simp [State.outside, State.env, h]

@[simp] theorem mapLink_outside (s : State) (f : Link → Link)
    (h : ((f s.link).linkFaults, (f s.link).outstanding) = (s.link.linkFaults, s.link.outstanding)) :
    (s.mapLink f).outside = s.outside := by
  simp only [Prod.mk.injEq] at h
  simp [State.outside, State.env, h]

@[simp] theorem mapDict_outside (s : State) (f : Dict → Dict)
    (h : (f s.dict).overlay = s.dict.overlay) : (s.mapDict f).outside = s.outside := by
  simp [State.outside, State.env, h]

@[simp] theorem Dict.setLayer_overlay (d : Dict) (i : LayerId) (l : Layer) :
    (d.setLayer i l).overlay = d.overlay := by cases i <;> rfl

@[simp] theorem Dict.countLayerFault_overlay (d : Dict) (i : LayerId) :
    (d.countLayerFault i).overlay = d.overlay := by simp [Dict.countLayerFault]

@[simp] theorem Dict.invalidateSector_overlay (d : Dict) (n : Nat) :
    (d.invalidateSector n).overlay = d.overlay := rfl

/-! ## Link controller -/

@[simp] theorem testAttn_outside (s : State) : (testAttn s).outside = s.outside := by simp [testAttn]

@[simp] theorem enqueue_outside (r : Bool) (k t : Byte) (p : List Byte) (s : State) :
    (enqueue r k t p s).outside = s.outside := by simp [enqueue]

@[simp] theorem reply_outside (k t : Byte) (c : ReplyCode) (p : List Byte) (s : State) :
    (reply k t c p s).outside = s.outside := by simp [reply]

@[simp] theorem answer_outside (r : Request) (c : ReplyCode) (p : List Byte) (s : State) :
    (answer r c p s).outside = s.outside := by simp [answer]

@[simp] theorem offerNotice_outside (k : Byte) (p : List Byte) (s : State) :
    (offerNotice k p s).outside = s.outside := by simp only [offerNotice, ite_outside] <;> simp

@[simp] theorem queueCondition_outside (c : Condition) (s : State) :
    (queueCondition c s).outside = s.outside := by simp [queueCondition]

@[simp] theorem notifyCondition_outside (c : Condition) (s : State) :
    (notifyCondition c s).outside = s.outside := by
  unfold notifyCondition
  split
  · rfl
  · dsimp only
    split
    · simp
    · rw [mapLink_outside _ _ rfl, mapLink_outside _ _ rfl]

@[simp] theorem raise_outside (c : Condition) (s : State) : (raise c s).outside = s.outside := by simp [raise]

@[simp] theorem testJournalLow_outside (s : State) : (testJournalLow s).outside = s.outside := by
  simp only [testJournalLow, ite_outside] <;> simp

@[simp] theorem offerDeferred_outside (cs : List Condition) (s : State) :
    (offerDeferred cs s).outside = s.outside := by
  induction cs generalizing s with
  | nil => rfl
  | cons c cs ih => simp only [offerDeferred, ite_outside, ih] <;> simp

@[simp] theorem endFrame_outside (s : State) : (endFrame s).outside = s.outside := by simp [endFrame]

/-! ## Memory port requests -/

@[simp] theorem requestJournal_outside (op : MemOp) (s : State) :
    (requestJournal op s).outside = s.outside := by simp [requestJournal]

@[simp] theorem requestTranslation_outside (op : MemOp) (s : State) :
    (requestTranslation op s).outside = s.outside := by simp [requestTranslation]

@[simp] theorem requestLink_outside (op : MemOp) (s : State) : (requestLink op s).outside = s.outside := by
  simp [requestLink]

@[simp] theorem pushItem_outside (i : LinkItem) (s : State) : (pushItem i s).outside = s.outside := by
  simp [pushItem]

@[simp] theorem setHead_outside (i : LinkItem) (s : State) : (setHead i s).outside = s.outside := by
  simp [setHead]

@[simp] theorem popItem_outside (s : State) : (popItem s).outside = s.outside := by simp [popItem]

@[simp] theorem dropInFlight_outside (r : Requester) (s : State) :
    (dropInFlight r s).outside = s.outside := by simp [dropInFlight]

@[simp] theorem freeSlot_outside (s : State) : (freeSlot s).outside = s.outside := by simp [freeSlot]

@[simp] theorem MemPort.grant_faultCount (p : MemPort) (r : Requester) (op : MemOp) (now : Nat) :
    (p.grant r op now).faultCount = p.faultCount := by cases r <;> rfl

/-! ## Feeds and stream -/

@[simp] theorem takeFrame_outside (i : PortId) (f : FeedFrame) (s : State) :
    (takeFrame i f s).outside = s.outside := by cases i <;> simp [takeFrame]

@[simp] theorem choose_outside (i : PortId) (s : State) : (choose i s).outside = s.outside := by
  simp only [choose]; (repeat' split) <;> simp

@[simp] theorem chooseRun_outside (n : Nat) (s : State) : (chooseRun n s).outside = s.outside := by
  induction n generalizing s with
  | zero => rfl
  | succ n ih => simp only [chooseRun, ite_outside, ih] <;> simp

@[simp] theorem choosePortZero_outside (s : State) : (choosePortZero s).outside = s.outside := by
  simp [choosePortZero]

@[simp] theorem chooseAll_outside (s : State) : (chooseAll s).outside = s.outside := by simp [chooseAll]

@[simp] theorem chooseOne_outside (i : PortId) (s : State) : (chooseOne i s).outside = s.outside := by
  cases i <;> simp [chooseOne]

@[simp] theorem feedRetract_outside (p : Nat) (s : State) : (feedRetract p s).outside = s.outside := by
  simp [feedRetract]

@[simp] theorem feedSettled_outside (s : State) : (feedSettled s).outside = s.outside := by
  simp [feedSettled]

@[simp] theorem feedLength_outside (s : State) : (feedLength s).outside = s.outside := by simp [feedLength]

@[simp] theorem feedJobOpen_outside (s : State) : (feedJobOpen s).outside = s.outside := by
  simp [feedJobOpen]

@[simp] theorem portsTakeStates_outside (s : State) : (portsTakeStates s).outside = s.outside := by
  simp [portsTakeStates]

@[simp] theorem pace_outside (s : State) : (pace s).outside = s.outside := by simp [pace]

@[simp] theorem noticeSpaceFreed_outside (s : State) : (noticeSpaceFreed s).outside = s.outside := by
  simp [noticeSpaceFreed]

@[simp] theorem applyAppend_outside (n : Nat) (s : State) : (applyAppend n s).outside = s.outside := by
  simp [applyAppend]

@[simp] theorem applyRetract_outside (n : Nat) (s : State) : (applyRetract n s).outside = s.outside := by
  simp [applyRetract]

@[simp] theorem settleOldest_outside (c : Chunk) (s : State) :
    (settleOldest c s).outside = s.outside := by simp [settleOldest]

@[simp] theorem settleFrom_outside (cs : List Chunk) (s : State) :
    (settleFrom cs s).outside = s.outside := by
  induction cs generalizing s with
  | nil => rfl
  | cons c cs ih => simp only [settleFrom, ite_outside, ih] <;> simp

@[simp] theorem settleTest_outside (s : State) : (settleTest s).outside = s.outside := by simp [settleTest]

@[simp] theorem durableAdvanced_outside (n : Nat) (s : State) :
    (durableAdvanced n s).outside = s.outside := by simp [durableAdvanced]

@[simp] theorem modeChanged_outside (m : JournalMode) (s : State) :
    (modeChanged m s).outside = s.outside := by simp [modeChanged]

@[simp] theorem streamJobOpen_outside (m : JournalMode) (s : State) :
    (streamJobOpen m s).outside = s.outside := by simp [streamJobOpen]

@[simp] theorem streamJobAbort_outside (s : State) : (streamJobAbort s).outside = s.outside := by
  simp only [streamJobAbort, ite_outside] <;> simp

/-! ## Ring and stroke former -/

@[simp] theorem arrive_outside (b : RecordBody) (s : State) : (arrive b s).outside = s.outside := by
  simp only [arrive]; split <;> simp

@[simp] theorem dispose_outside (b : RecordBody) (s : State) : (dispose b s).outside = s.outside := by
  simp only [dispose]; (repeat' split) <;> simp

@[simp] theorem closeStroke_outside (s : State) : (closeStroke s).outside = s.outside := by
  simp [closeStroke]

@[simp] theorem handResult_outside (s : State) : (handResult s).outside = s.outside := by
  simp only [handResult, ite_outside] <;> simp

/-! ## Journal -/

@[simp] theorem closeCompletes_outside (b : List Byte) (s : State) :
    (closeCompletes b s).outside = s.outside := by simp only [closeCompletes]; split <;> simp

@[simp] theorem journalClosed_outside (s : State) : (journalClosed s).outside = s.outside := by
  simp [journalClosed]

@[simp] theorem enterPassing_outside (c : JournalCause) (s : State) :
    (enterPassing c s).outside = s.outside := by simp [enterPassing]

@[simp] theorem startSeek_outside (n : Option Nat) (f : Bool) (s : State) :
    (startSeek n f s).outside = s.outside := by simp [startSeek]

@[simp] theorem seekEnded_outside (n : Option Nat) (f : Bool) (s : State) :
    (seekEnded n f s).outside = s.outside := by simp only [seekEnded, ite_outside] <;> simp

@[simp] theorem endSeekEarly_outside (s : State) : (endSeekEarly s).outside = s.outside := by
  unfold endSeekEarly
  rw [mapPort_outside _ _ rfl, ite_outside]
  simp

@[simp] theorem restartExport_outside (s : State) : (restartExport s).outside = s.outside := by
  unfold restartExport
  split
  · rw [mapPort_outside _ _ rfl, dropInFlight_outside]
  · rfl

@[simp] theorem startWrite_outside (n : Nat) (r : JournalRecord) (w : Bool) (s : State) :
    (startWrite n r w s).outside = s.outside := by simp [startWrite]

@[simp] theorem openSector_outside (n k : Nat) (s : State) : (openSector n k s).outside = s.outside := by
  simp [openSector]

@[simp] theorem startCloseWrite_outside (n : Nat) (s : State) :
    (startCloseWrite n s).outside = s.outside := by simp [startCloseWrite]

@[simp] theorem queueAmendment_outside (n : Nat) (s : State) :
    (queueAmendment n s).outside = s.outside := by simp [queueAmendment]

@[simp] theorem endAmendment_outside (d : Bool) (s : State) : (endAmendment d s).outside = s.outside := by
  simp [endAmendment]

@[simp] theorem locateAt_outside (q c k : Nat) (l : List Nat) (s : State) :
    (locateAt q c k l s).outside = s.outside := by simp only [locateAt]; (repeat' split) <;> simp

@[simp] theorem startLocate_outside (q : Nat) (s : State) : (startLocate q s).outside = s.outside := by
  simp only [startLocate]; split <;> simp

@[simp] theorem startCorrect_outside (c k : Nat) (s : State) :
    (startCorrect c k s).outside = s.outside := by simp [startCorrect]

@[simp] theorem locateStep_outside (q c k : Nat) (l : List Nat) (b : List Byte) (s : State) :
    (locateStep q c k l b s).outside = s.outside := by simp only [locateStep, ite_outside] <;> simp

@[simp] theorem commitRecord_outside (w : RecordWrite) (s : State) :
    (commitRecord w s).outside = s.outside := by simp only [commitRecord]; (repeat' split) <;> simp

@[simp] theorem recordFailed_outside (w : RecordWrite) (s : State) :
    (recordFailed w s).outside = s.outside := by simp [recordFailed]

@[simp] theorem voidFailed_outside (s : State) : (voidFailed s).outside = s.outside := by simp [voidFailed]

@[simp] theorem retireCurrent_outside (n : Nat) (s : State) : (retireCurrent n s).outside = s.outside := by
  simp [retireCurrent]

@[simp] theorem recordVoided_outside (w : RecordWrite) (s : State) :
    (recordVoided w s).outside = s.outside := by simp only [recordVoided, ite_outside] <;> simp

@[simp] theorem retireFailed_outside (s : State) : (retireFailed s).outside = s.outside := by
  simp only [retireFailed, ite_outside] <;> simp

@[simp] theorem headerCommitted_outside (n : Nat) (s : State) :
    (headerCommitted n s).outside = s.outside := by simp [headerCommitted]

@[simp] theorem openingPasses_outside (s : State) : (openingPasses s).outside = s.outside := by
  simp [openingPasses]

@[simp] theorem headerFailed_outside (n : Nat) (s : State) : (headerFailed n s).outside = s.outside := by
  simp only [headerFailed, ite_outside] <;> simp

@[simp] theorem headerVoided_outside (n : Nat) (s : State) : (headerVoided n s).outside = s.outside := by
  simp [headerVoided]

@[simp] theorem headerVoidFailed_outside (s : State) : (headerVoidFailed s).outside = s.outside := by
  simp [headerVoidFailed]

@[simp] theorem sectorExhausted_outside (s : State) : (sectorExhausted s).outside = s.outside := by
  simp only [sectorExhausted, ite_outside] <;> simp

/-! ## Scan -/

@[simp] theorem scanReply_outside (f : Bool) (r : ScanReply) (s : State) :
    (scanReply f r s).outside = s.outside := by simp only [scanReply]; (repeat' split) <;> simp

theorem foldl_outside {α : Type} (g : State → α → State) (hg : ∀ s a, (g s a).outside = s.outside)
    (l : List α) (s : State) : (l.foldl g s).outside = s.outside := by
  induction l generalizing s with
  | nil => rfl
  | cons a l ih => rw [List.foldl_cons, ih, hg]

@[simp] theorem endBoot_outside (s : State) : (endBoot s).outside = s.outside := by
  simp only [endBoot, ite_outside] <;> simp

@[simp] theorem scanOver_outside (f : Bool) (s : State) : (scanOver f s).outside = s.outside := by
  simp [scanOver, foldl_outside]

@[simp] theorem scanFailed_outside (s : State) : (scanFailed s).outside = s.outside := by simp [scanFailed]

@[simp] theorem scanCounts_outside (s : State) : (scanCounts s).outside = s.outside := by simp [scanCounts]

@[simp] theorem scanRequest_outside (g : ScanStage) (op : MemOp) (s : State) :
    (scanRequest g op s).outside = s.outside := by simp [scanRequest]

@[simp] theorem scanLatest_outside (c k : Nat) (l : List Nat) (s : State) :
    (scanLatest c k l s).outside = s.outside := by simp only [scanLatest]; (repeat' split) <;> simp

@[simp] theorem startLatest_outside (s : State) : (startLatest s).outside = s.outside := by
  simp [startLatest]

@[simp] theorem scanVoids_outside (l : List Nat) (s : State) : (scanVoids l s).outside = s.outside := by
  simp only [scanVoids]; split <;> simp

@[simp] theorem slotsRead_outside (b : List (Byte × Bool)) (s : State) :
    (slotsRead b s).outside = s.outside := by simp [slotsRead]

@[simp] theorem startSlots_outside (s : State) : (startSlots s).outside = s.outside := by
  simp only [startSlots]; split <;> simp

@[simp] theorem scanClassify_outside (n : Nat) (s : State) : (scanClassify n s).outside = s.outside := by
  simp only [scanClassify, ite_outside] <;> simp

@[simp] theorem classed_outside (n : Nat) (r : SectorRow) (s : State) :
    (classed n r s).outside = s.outside := by simp [classed]

@[simp] theorem beginScan_outside (l : List ScanReply) (s : State) :
    (beginScan l s).outside = s.outside := by simp [beginScan]

@[simp] theorem startUpScan_outside (s : State) : (startUpScan s).outside = s.outside := by
  simp only [startUpScan, ite_outside] <;> simp

@[simp] theorem scanTimeout_outside (g : ScanStage) (s : State) :
    (scanTimeout g s).outside = s.outside := by cases g <;> simp [scanTimeout]

@[simp] theorem scanStep_outside (g : ScanStage) (b : List Byte) (s : State) :
    (scanStep g b s).outside = s.outside := by simp only [scanStep]; (repeat' split) <;> simp

/-! ## Journal outcomes and abort -/

@[simp] theorem recordOutcome_outside (w : RecordWrite) (g : WriteStep) (o : OpOutcome) (s : State) :
    (recordOutcome w g o s).outside = s.outside := by cases g <;> cases o <;> simp only [recordOutcome, ite_outside] <;> simp

@[simp] theorem headerOutcome_outside (n : Nat) (b : List Byte) (g : WriteStep) (o : OpOutcome) (s : State) :
    (headerOutcome n b g o s).outside = s.outside := by
  cases g <;> cases o <;> simp only [headerOutcome, ite_outside] <;> simp

@[simp] theorem workOutcome_outside (o : OpOutcome) (s : State) : (workOutcome o s).outside = s.outside := by
  simp only [workOutcome]; (repeat' split) <;> simp

@[simp] theorem abortWorkDone_outside (s : State) : (abortWorkDone s).outside = s.outside := by
  simp [abortWorkDone]

@[simp] theorem useSlot_outside (n : Nat) (s : State) : (useSlot n s).outside = s.outside := by
  simp [useSlot]

@[simp] theorem requestAbortVoid_outside (c k : Nat) (s : State) :
    (requestAbortVoid c k s).outside = s.outside := by simp [requestAbortVoid]

@[simp] theorem abortVoidRecord_outside (w : RecordWrite) (s : State) :
    (abortVoidRecord w s).outside = s.outside := by simp [abortVoidRecord]

@[simp] theorem abortVoidHeader_outside (n : Nat) (s : State) :
    (abortVoidHeader n s).outside = s.outside := by simp [abortVoidHeader]

@[simp] theorem abortCommitRecord_outside (w : RecordWrite) (s : State) :
    (abortCommitRecord w s).outside = s.outside := by simp [abortCommitRecord]

@[simp] theorem abortCommitHeader_outside (s : State) : (abortCommitHeader s).outside = s.outside := by
  simp [abortCommitHeader]

@[simp] theorem abortOutcome_outside (o : OpOutcome) (s : State) :
    (abortOutcome o s).outside = s.outside := by simp only [abortOutcome]; (repeat' split) <;> simp

@[simp] theorem abortWithdrawn_outside (s : State) : (abortWithdrawn s).outside = s.outside := by
  simp only [abortWithdrawn]; split <;> simp

@[simp] theorem journalAbort_outside (s : State) : (journalAbort s).outside = s.outside := by
  simp only [journalAbort, ite_outside] <;> simp

@[simp] theorem journalOutcome_outside (o : OpOutcome) (s : State) :
    (journalOutcome o s).outside = s.outside := by
  simp only [journalOutcome]; (repeat' split) <;> simp

/-! ## Translation engine -/

@[simp] theorem beginEvaluation_outside (f : Bool) (s : State) :
    (beginEvaluation f s).outside = s.outside := by simp [beginEvaluation]

@[simp] theorem reachBack_outside (s : State) : (reachBack s).outside = s.outside := by
  simp only [reachBack]; (repeat' split) <;> simp

@[simp] theorem handEdits_outside (n : Nat) (a b : List Byte) (s : State) :
    (handEdits n a b s).outside = s.outside := by simp only [handEdits]; (repeat' split) <;> simp

@[simp] theorem nextAfter_outside (f : Finish) (c : Bool) (s : State) :
    (nextAfter f c s).outside = s.outside := by simp only [nextAfter]; (repeat' split) <;> simp

@[simp] theorem endEvaluation_outside (r : EvalRun) (p : List Resolved) (s : State) :
    (endEvaluation r p s).outside = s.outside := by simp [endEvaluation]

@[simp] theorem advanceEvaluation_outside (r : EvalRun) (s : State) :
    (advanceEvaluation r s).outside = s.outside := by
  unfold advanceEvaluation
  split
  · rw [requestTranslation_outside, mapDict_outside _ _ rfl, mapEngine_outside]
  · simp

@[simp] theorem lookupArrived_outside (l : List Code) (r : LookupResult) (s : State) :
    (lookupArrived l r s).outside = s.outside := by simp [lookupArrived]

@[simp] theorem lookupNext_outside (l : List Code) (n : LookupNext) (s : State) :
    (lookupNext l n s).outside = s.outside := by cases n <;> simp [lookupNext]

@[simp] theorem layerDone_outside (k : Lookup) (r : LookupResult) (s : State) :
    (layerDone k r s).outside = s.outside := by simp [layerDone]

@[simp] theorem walkTimeout_outside (k : Lookup) (s : State) : (walkTimeout k s).outside = s.outside := by
  simp [walkTimeout]

@[simp] theorem correctWindow_outside (e : StrokeEntry) (s : State) :
    (correctWindow e s).outside = s.outside := by simp [correctWindow]

@[simp] theorem reopenChunk_outside (c : Chunk) (s : State) : (reopenChunk c s).outside = s.outside := by
  simp only [reopenChunk]; (repeat' split) <;> simp

@[simp] theorem takeCorrection_outside (r : RingRecord) (s : State) :
    (takeCorrection r s).outside = s.outside := by simp only [takeCorrection]; (repeat' split) <;> simp

@[simp] theorem takeStroke_outside (r : RingRecord) (s : State) : (takeStroke r s).outside = s.outside := by
  simp [takeStroke]

@[simp] theorem takeMark_outside (r : RingRecord) (s : State) : (takeMark r s).outside = s.outside := by
  simp [takeMark]

@[simp] theorem takeRecord_outside (r : RingRecord) (s : State) : (takeRecord r s).outside = s.outside := by
  simp only [takeRecord]; (repeat' split) <;> simp

@[simp] theorem overlayChanged_outside (r : Bool) (s : State) :
    (overlayChanged r s).outside = s.outside := by
  simp only [overlayChanged]; (repeat' split) <;> simp

@[simp] theorem timerExpired_outside (s : State) : (timerExpired s).outside = s.outside := by
  simp only [timerExpired]; split <;> simp

@[simp] theorem engineJobOpen_outside (s : State) : (engineJobOpen s).outside = s.outside := by
  simp [engineJobOpen]

@[simp] theorem engineJobAbort_outside (s : State) : (engineJobAbort s).outside = s.outside := by
  simp [engineJobAbort]

/-! ## Jobs -/

@[simp] theorem journalJobOpen_outside (n : Nat) (c : JournalCause) (s : State) :
    (journalJobOpen n c s).outside = s.outside := by simp only [journalJobOpen, ite_outside] <;> simp

@[simp] theorem openAllBlocks_outside (o : OpenPending) (s : State) :
    (openAllBlocks o s).outside = s.outside := by simp [openAllBlocks]

@[simp] theorem openTakesEffect_outside (s : State) : (openTakesEffect s).outside = s.outside := by
  simp only [openTakesEffect]; split <;> simp

@[simp] theorem closeTaken_outside (t : Byte) (s : State) : (closeTaken t s).outside = s.outside := by
  simp [closeTaken]

@[simp] theorem abortTaken_outside (t : Byte) (s : State) : (abortTaken t s).outside = s.outside := by
  simp only [abortTaken]; split <;> simp

/-! ## Link-side items -/

@[simp] theorem layerDisable_outside (t : Byte) (i : LayerId) (b c : Nat) (s : State) :
    (layerDisable t i b c s).outside = s.outside := by simp [layerDisable]

@[simp] theorem layerSetOutcome_outside (t : Byte) (i : LayerId) (b c : Nat) (o : OpOutcome) (s : State) :
    (layerSetOutcome t i b c o s).outside = s.outside := by
  cases o <;> simp only [layerSetOutcome, ite_outside] <;> simp

@[simp] theorem validateNext_outside (l : List LayerId) (s : State) :
    (validateNext l s).outside = s.outside := by simp only [validateNext]; split <;> simp

@[simp] theorem validationOutcome_outside (l : List LayerId) (o : OpOutcome) (s : State) :
    (validationOutcome l o s).outside = s.outside := by simp only [validationOutcome]; split <;> simp

@[simp] theorem imageReadOutcome_outside (t : Byte) (o : OpOutcome) (s : State) :
    (imageReadOutcome t o s).outside = s.outside := by cases o <;> simp [imageReadOutcome]

@[simp] theorem beginImageWrite_outside (a : Nat) (b : List Byte) (s : State) :
    (beginImageWrite a b s).outside = s.outside := by
  rw [beginImageWrite, requestLink_outside, mapDict_outside _ _ rfl]

@[simp] theorem imageWriteOutcome_outside (t : Byte) (a : Nat) (b : List Byte) (r : Bool) (o : OpOutcome)
    (s : State) : (imageWriteOutcome t a b r o s).outside = s.outside := by
  simp only [imageWriteOutcome]; (repeat' split) <;> simp

@[simp] theorem beginImageErase_outside (n : Nat) (s : State) :
    (beginImageErase n s).outside = s.outside := by
  rw [beginImageErase, requestLink_outside, mapDict_outside _ _ rfl]

@[simp] theorem imageEraseOutcome_outside (t : Byte) (o : OpOutcome) (s : State) :
    (imageEraseOutcome t o s).outside = s.outside := by cases o <;> simp [imageEraseOutcome]

@[simp] theorem seekMissed_outside (t : Byte) (c : ReplyCode) (s : State) :
    (seekMissed t c s).outside = s.outside := by simp [seekMissed]

@[simp] theorem seekFound_outside (t : Byte) (c k : Nat) (s : State) :
    (seekFound t c k s).outside = s.outside := by simp [seekFound]

@[simp] theorem seekSector_outside (t : Byte) (j q : Nat) (l : List Nat) (s : State) :
    (seekSector t j q l s).outside = s.outside := by simp only [seekSector]; split <;> simp

@[simp] theorem seekSlot_outside (t : Byte) (j q c k : Nat) (n : Bool) (l : List Nat) (s : State) :
    (seekSlot t j q c k n l s).outside = s.outside := by simp only [seekSlot, ite_outside] <;> simp

@[simp] theorem seekHeader_outside (t : Byte) (j q c : Nat) (l : List Nat) (b : List Byte) (s : State) :
    (seekHeader t j q c l b s).outside = s.outside := by simp only [seekHeader, ite_outside] <;> simp

@[simp] theorem seekRecord_outside (t : Byte) (j q c k : Nat) (n : Bool) (l : List Nat) (b : List Byte)
    (s : State) : (seekRecord t j q c k n l b s).outside = s.outside := by simp only [seekRecord, ite_outside] <;> simp

@[simp] theorem journalSeekOutcome_outside (t : Byte) (j q c k : Nat) (n : Bool) (l : List Nat)
    (o : OpOutcome) (s : State) : (journalSeekOutcome t j q c k n l o s).outside = s.outside := by
  cases o <;> simp only [journalSeekOutcome, ite_outside] <;> simp

@[simp] theorem exportReply_outside (t : Byte) (c : ReplyCode) (g : List (List Byte)) (s : State) :
    (exportReply t c g s).outside = s.outside := by simp [exportReply]

@[simp] theorem exportNext_outside (t : Byte) (w : Nat) (g : List (List Byte)) (s : State) :
    (exportNext t w g s).outside = s.outside := by simp only [exportNext, ite_outside] <;> simp

@[simp] theorem journalReadOutcome_outside (t : Byte) (w : Nat) (g : List (List Byte)) (o : OpOutcome)
    (s : State) : (journalReadOutcome t w g o s).outside = s.outside := by
  cases o <;> simp [journalReadOutcome]

@[simp] theorem eraseNext_outside (t : Byte) (l : List Nat) (n : Nat) (s : State) :
    (eraseNext t l n s).outside = s.outside := by simp only [eraseNext]; split <;> simp

@[simp] theorem journalEraseOutcome_outside (t : Byte) (l : List Nat) (n : Nat) (o : OpOutcome) (s : State) :
    (journalEraseOutcome t l n o s).outside = s.outside := by cases o <;> simp [journalEraseOutcome]

@[simp] theorem seekCandidate_outside (l : List Nat) (f : Bool) (s : State) :
    (seekCandidate l f s).outside = s.outside := by simp only [seekCandidate]; split <;> simp

@[simp] theorem retireCandidate_outside (c : Nat) (s : State) :
    (retireCandidate c s).outside = s.outside := by simp [retireCandidate]

@[simp] theorem nextSeekOutcome_outside (l : List Nat) (b : Option Bool) (f : Bool) (o : OpOutcome)
    (s : State) : (nextSeekOutcome l b f o s).outside = s.outside := by
  simp only [nextSeekOutcome]; (repeat' split) <;> simp

@[simp] theorem storeOutcome_outside (t : Byte) (r : List Byte) (d : Nat) (e : Bool) (o : OpOutcome)
    (s : State) : (storeOutcome t r d e o s).outside = s.outside := by
  cases o <;> simp only [storeOutcome, ite_outside] <;> simp

@[simp] theorem beginItem_outside (i : LinkItem) (s : State) : (beginItem i s).outside = s.outside := by
  cases i <;> simp only [beginItem, ite_outside] <;> simp

/-! ## The work of the blocks -/

theorem place_outside (n : Nat) (w : Nat → State → State) (hw : ∀ c s, (w c s).outside = s.outside)
    {s t : State} (h : place n w s = some t) : t.outside = s.outside := by
  unfold place at h
  split at h <;> simp only [Option.map_eq_some_iff] at h <;> obtain ⟨_, _, rfl⟩ := h <;> simp [hw]

theorem runningWork_outside {s t : State} (h : runningWork s = some t) : t.outside = s.outside := by
  unfold runningWork at h
  split at h
  · cases h; simp
  · split at h
    · cases h; simp
    · split at h
      · exact place_outside _ _ (by simp) h
      · split at h
        · exact place_outside _ _ (by simp) h
        · split at h
          · exact place_outside _ _ (by simp) h
          · split at h
            · exact place_outside _ _ (by simp) h
            · cases h

theorem journalStep_outside {s t : State} (h : journalStep s = some t) : t.outside = s.outside := by
  unfold journalStep at h
  split at h
  · cases h
  · split at h
    · cases h
    · exact runningWork_outside h
    · split at h
      · cases h; simp
      · split at h
        · cases h; simp
        · cases h

theorem internalStep_outside {s t : State} (h : internalStep s = some t) : t.outside = s.outside := by
  simp only [internalStep, Option.or_eq_some_iff] at h
  rcases h with h | ⟨-, h | ⟨-, h | ⟨-, h | ⟨-, h | ⟨-, h | ⟨-, h⟩⟩⟩⟩⟩⟩
  · unfold evaluationStep at h; split at h <;> cases h; simp
  · unfold takeStep at h
    split at h
    · simp only [Option.map_eq_some_iff] at h; obtain ⟨_, _, rfl⟩ := h; simp
    · cases h
  · unfold drainStep at h; split at h <;> cases h; simp
  · exact journalStep_outside h
  · unfold abortStep at h
    split at h
    · cases h
    · split at h <;> cases h; simp
  · unfold headStep at h
    split at h
    · cases h
    · split at h
      · cases h
      · split at h <;> cases h; simp
  · unfold grantStep at h
    split at h
    · split at h <;> cases h; simp
    · cases h

/-- The blocks' work within a step changes nothing outside. -/
@[simp] theorem cascade_outside (n : Nat) (s : State) : (cascade n s).outside = s.outside := by
  induction n generalizing s with
  | zero => rfl
  | succ n ih =>
    unfold cascade
    split
    · rfl
    · rename_i h; rw [ih, internalStep_outside h]

@[simp] theorem runBlocks_outside (s : State) : (runBlocks s).outside = s.outside := by simp [runBlocks]

end Sys2Proof.Machine
end

