-- ==== Sys2Proof/Laws/Commands.lean ====
section
/-! SUPPORT. What each command leaves alone among the parts around the blocks. -/

namespace Sys2Proof.Machine

/-- The environment, the channel table, the parameter store and the overlay. -/
def State.base (s : State) : (Device × Presence × Nat × List Instr) × Keys × Params × List OverlayEntry :=
  (s.env, s.keys, s.params, s.dict.overlay)

theorem base_eq {s t : State} : t.base = s.base ↔
    t.env = s.env ∧ t.keys = s.keys ∧ t.params = s.params ∧ t.dict.overlay = s.dict.overlay := by
  simp [State.base]

theorem base_of_outside {s t : State} (h : t.outside = s.outside) : t.base = s.base := by
  rw [outside_eq] at h; rw [base_eq]; exact ⟨h.1, h.2.1, h.2.2.1, h.2.2.2.1⟩

theorem outstanding_of_outside {s t : State} (h : t.outside = s.outside) :
    t.link.outstanding = s.link.outstanding := by rw [outside_eq] at h; exact h.2.2.2.2.2.2

theorem countLinkFault_base (s : State) : (countLinkFault s).base = s.base := by
  unfold countLinkFault; rw [base_of_outside (raise_outside _ _)]; rfl

theorem countMemoryFault_base (s : State) : (countMemoryFault s).base = s.base := by
  unfold countMemoryFault; rw [base_of_outside (raise_outside _ _)]; rfl

theorem countLinkFault_outstanding (s : State) :
    (countLinkFault s).link.outstanding = s.link.outstanding := by
  unfold countLinkFault; rw [outstanding_of_outside (raise_outside _ _)]; rfl

/-- A request's taking changes of a part of the base only what its owner does. -/
theorem takeRequest_base {α : Type} (g : State → α) (kind tag : Byte) (payload : List Byte)
    (fixed : Option Nat) (owner : Request → List Byte → State → State) (s : State)
    (hg : ∀ s t : State, t.base = s.base → g t = g s) (ho : ∀ r p s, g (owner r p s) = g s) :
    g (takeRequest kind tag payload fixed owner s) = g s := by
  have hl : g (s.mapLink Link.withTaken) = g s := hg _ _ rfl
  rcases takeRequest_cases kind tag payload fixed owner s with h | h | h | h <;> rw [h]
  · exact hg _ _ (by rw [countLinkFault_base]; rfl)
  · rw [hg _ _ (base_of_outside (answer_outside _ _ _ _)), hl]
  · rw [hg _ _ (base_of_outside (answer_outside _ _ _ _)), hl]
  · rw [ho, hl]

/-- The taking of a request leaves at most 8 outstanding. -/
theorem takeRequest_outstanding (kind tag : Byte) (payload : List Byte)
    (fixed : Option Nat) (owner : Request → List Byte → State → State) (s : State)
    (ho : ∀ r p s, (owner r p s).link.outstanding = s.link.outstanding) (h : s.link.outstanding ≤ 8) :
    (takeRequest kind tag payload fixed owner s).link.outstanding ≤ 8 := by
  simp only [takeRequest]
  split
  · rw [countLinkFault_outstanding]; exact h
  · rename_i hn
    simp only [Bool.or_eq_true, not_or, Config.outstandingRequests, endFrame,
      State.mapLink] at hn
    have hb : s.link.outstanding + 1 ≤ 8 := by
      have : ¬ s.link.outstanding ≥ 8 := fun hc => hn.1 (decide_eq_true hc)
      omega
    split
    · rw [outstanding_of_outside (answer_outside _ _ _ _)]; exact hb
    · split
      · rw [outstanding_of_outside (answer_outside _ _ _ _)]; exact hb
      · rw [ho]; exact hb

/-! ## The owners of requests -/

@[simp] theorem applyProfile_outside (i : ProfileId) (p : Profile) (s : State) :
    (applyProfile i p s).outside = s.outside := by
  simp only [applyProfile]
  rw [foldl_outside _ (fun s k => chooseOne_outside k s)]
  rfl

@[simp] theorem applyPort_outside (i : PortId) (e : Bool) (p : ProfileId) (v : LineSpeed) (s : State) :
    (applyPort i e p v s).outside = s.outside := by simp [applyPort]

@[simp] theorem hostArrival_outside (r : Request) (b : RecordBody) (s : State) :
    (hostArrival r b s).outside = s.outside := by simp [hostArrival]

@[simp] theorem raiseHeld_outside (set : Byte) (cs : List Condition) (s : State) :
    (raiseHeld set cs s).outside = s.outside := by
  simp only [raiseHeld]
  rw [foldl_outside]
  intro s c
  split <;> simp

@[simp] theorem clearConditions_outside (set : Byte) (s : State) :
    (s.mapLink fun l => l.clearConditions set).outside = s.outside := rfl

@[simp] theorem answerParam_outside (r : Request) (i : Byte) (v : List Byte) (s : State) :
    (answerParam r i v s).outside = s.outside := by simp [answerParam]

@[simp] theorem acceptOpen_outside (o : OpenPending) (s : State) : (acceptOpen o s).outside = s.outside := by
  simp [acceptOpen]

@[simp] theorem openAnswered_outside (r : Request) (j : Nat) (a : Bool) (s : State) :
    (openAnswered r j a s).outside = s.outside := by
  simp only [openAnswered]
  (repeat' split) <;> simp

@[simp] theorem askChannelQuery_outside (r : Request) (p : List Byte) (s : State) :
    (askChannelQuery r p s).outside = s.outside := by
  simp only [askChannelQuery]
  (repeat' split) <;> simp

@[simp] theorem askLayerSet_outside (r : Request) (p : List Byte) (s : State) :
    (askLayerSet r p s).outside = s.outside := by
  simp only [askLayerSet]
  (repeat' split) <;> simp

@[simp] theorem askLayerQuery_outside (r : Request) (p : List Byte) (s : State) :
    (askLayerQuery r p s).outside = s.outside := by
  simp only [askLayerQuery]
  (repeat' split) <;> simp

@[simp] theorem askStoreSettings_outside (r : Request) (p : List Byte) (s : State) :
    (askStoreSettings r p s).outside = s.outside := by
  simp only [askStoreSettings]
  (repeat' split) <;> simp

@[simp] theorem askOverlayQuery_outside (r : Request) (p : List Byte) (s : State) :
    (askOverlayQuery r p s).outside = s.outside := by
  simp only [askOverlayQuery]
  (repeat' split) <;> simp

@[simp] theorem askProfileSet_outside (r : Request) (p : List Byte) (s : State) :
    (askProfileSet r p s).outside = s.outside := by
  simp only [askProfileSet]
  (repeat' split) <;> simp

@[simp] theorem askPortSet_outside (r : Request) (p : List Byte) (s : State) :
    (askPortSet r p s).outside = s.outside := by
  simp only [askPortSet]
  (repeat' split) <;> simp

@[simp] theorem askPortQuery_outside (r : Request) (p : List Byte) (s : State) :
    (askPortQuery r p s).outside = s.outside := by
  simp only [askPortQuery]
  (repeat' split) <;> simp

@[simp] theorem askJobOpen_outside (r : Request) (p : List Byte) (s : State) :
    (askJobOpen r p s).outside = s.outside := by
  simp only [askJobOpen]
  (repeat' split) <;> simp

@[simp] theorem askJobClose_outside (r : Request) (p : List Byte) (s : State) :
    (askJobClose r p s).outside = s.outside := by
  simp only [askJobClose]
  (repeat' split) <;> simp

@[simp] theorem askJobAbort_outside (r : Request) (p : List Byte) (s : State) :
    (askJobAbort r p s).outside = s.outside := by
  simp only [askJobAbort]
  (repeat' split) <;> simp

@[simp] theorem askStrike_outside (r : Request) (p : List Byte) (s : State) :
    (askStrike r p s).outside = s.outside := by
  simp only [askStrike]
  (repeat' split) <;> simp

@[simp] theorem askMark_outside (r : Request) (p : List Byte) (s : State) :
    (askMark r p s).outside = s.outside := by
  simp only [askMark]
  (repeat' split) <;> simp

@[simp] theorem askJournalSeek_outside (r : Request) (p : List Byte) (s : State) :
    (askJournalSeek r p s).outside = s.outside := by
  simp only [askJournalSeek]
  (repeat' split) <;> simp

@[simp] theorem askJournalRead_outside (r : Request) (p : List Byte) (s : State) :
    (askJournalRead r p s).outside = s.outside := by
  simp only [askJournalRead]
  (repeat' split) <;> simp

@[simp] theorem askJournalErase_outside (r : Request) (p : List Byte) (s : State) :
    (askJournalErase r p s).outside = s.outside := by
  simp only [askJournalErase]
  (repeat' split) <;> simp

@[simp] theorem askImageRead_outside (r : Request) (p : List Byte) (s : State) :
    (askImageRead r p s).outside = s.outside := by
  simp only [askImageRead]
  (repeat' split) <;> simp

@[simp] theorem askImageWrite_outside (r : Request) (p : List Byte) (s : State) :
    (askImageWrite r p s).outside = s.outside := by
  simp only [askImageWrite]
  (repeat' split) <;> simp

@[simp] theorem askImageErase_outside (r : Request) (p : List Byte) (s : State) :
    (askImageErase r p s).outside = s.outside := by
  simp only [askImageErase]
  (repeat' split) <;> simp

@[simp] theorem askIdentify_outside (r : Request) (p : List Byte) (s : State) :
    (askIdentify r p s).outside = s.outside := by
  simp only [askIdentify]
  (repeat' split) <;> simp

@[simp] theorem askStatus_outside (r : Request) (p : List Byte) (s : State) :
    (askStatus r p s).outside = s.outside := by
  simp only [askStatus]
  (repeat' split) <;> simp

@[simp] theorem askConditionQuery_outside (r : Request) (p : List Byte) (s : State) :
    (askConditionQuery r p s).outside = s.outside := by
  simp only [askConditionQuery]
  (repeat' split) <;> simp

@[simp] theorem askConditionClear_outside (r : Request) (p : List Byte) (s : State) :
    (askConditionClear r p s).outside = s.outside := by
  simp only [askConditionClear]
  (repeat' split) <;> simp

@[simp] theorem askGetParam_outside (r : Request) (p : List Byte) (s : State) :
    (askGetParam r p s).outside = s.outside := by
  simp only [askGetParam]
  (repeat' split) <;> simp

@[simp] theorem askSetParamUnknown_outside (r : Request) (p : List Byte) (s : State) :
    (askSetParamUnknown r p s).outside = s.outside := by
  simp only [askSetParamUnknown]
  (repeat' split) <;> simp


/-! ## The owners that change a part of the base -/

/-- Outside but for the channel table. -/
theorem askChannelSet_outside (r : Request) (p : List Byte) (s : State) :
    ∃ k, (askChannelSet r p s).outside = (s.mapKeys fun _ => k).outside := by
  simp only [askChannelSet]
  (repeat' split) <;> simp only [answer_outside]
  · exact ⟨s.keys, rfl⟩
  · exact ⟨s.keys, rfl⟩
  · exact ⟨_, rfl⟩

theorem clearKeyLatches_outside (n : Nat) (s : State) :
    ∃ k, (clearKeyLatches n s).outside = (s.mapKeys fun _ => k).outside := by
  simp only [clearKeyLatches]
  split
  · rw [raise_outside]; exact ⟨_, rfl⟩
  · exact ⟨_, rfl⟩

theorem askFaultClear_outside (r : Request) (p : List Byte) (s : State) :
    ∃ k, (askFaultClear r p s).outside = (s.mapKeys fun _ => k).outside := by
  simp only [askFaultClear]
  split
  · rw [answer_outside]; exact ⟨s.keys, rfl⟩
  · rw [answer_outside]
    exact clearKeyLatches_outside _ s

theorem askDefine_outside (r : Request) (p : List Byte) (s : State) :
    ∃ o, (askDefine r p s).outside = (s.mapDict fun d => { d with overlay := o }).outside := by
  simp only [askDefine, applyDefine, changeOverlay]
  (repeat' split) <;> simp only [answer_outside, runBlocks_outside, overlayChanged_outside]
  · exact ⟨s.dict.overlay, rfl⟩
  · exact ⟨s.dict.overlay, rfl⟩
  · exact ⟨s.dict.overlay, rfl⟩
  · exact ⟨_, rfl⟩

theorem askUndefine_outside (r : Request) (p : List Byte) (s : State) :
    ∃ o, (askUndefine r p s).outside = (s.mapDict fun d => { d with overlay := o }).outside := by
  simp only [askUndefine, changeOverlay]
  (repeat' split) <;> simp only [answer_outside, runBlocks_outside, overlayChanged_outside]
  · exact ⟨s.dict.overlay, rfl⟩
  · exact ⟨s.dict.overlay, rfl⟩
  · exact ⟨_, rfl⟩

theorem askOverlayClear_outside (r : Request) (p : List Byte) (s : State) :
    ∃ o, (askOverlayClear r p s).outside = (s.mapDict fun d => { d with overlay := o }).outside := by
  simp only [askOverlayClear, changeOverlay]
  rw [runBlocks_outside, answer_outside, overlayChanged_outside]
  exact ⟨[], rfl⟩

/-- A one-byte parameter is stored, or nothing is. -/
theorem setByte_outside (r : Request) (i : Byte) (v : List Byte) (f : Nat → Nat) (store : Nat → State → State)
    (s : State) :
    (setByte r i v f store s).outside = s.outside ∨ ∃ n, (setByte r i v f store s).outside = (store n s).outside := by
  simp only [setByte]
  split
  · right; exact ⟨_, answerParam_outside _ _ _ _⟩
  · left; simp

theorem askSetUpLevel_outside (r : Request) (v : List Byte) (s : State) :
    ∃ p k, (askSetUpLevel r v s).outside = ((s.mapParams fun _ => p).mapKeys fun _ => k).outside := by
  rcases setByte_outside r 0x01 v (clamp 8 231) storeUpLevel s with h | ⟨n, h⟩
  · exact ⟨s.params, s.keys, h⟩
  · exact ⟨_, _, h⟩

theorem applyDepth_outside (n : Nat) (s : State) :
    ∃ p, (applyDepth n s).outside = (s.mapParams fun _ => p).outside := by
  simp only [applyDepth]
  split <;> simp only [settleTest_outside, mapEngine_outside] <;> exact ⟨_, rfl⟩

theorem notifyUnmasked_outside (old new : Byte) (cs : List Condition) (s : State) :
    (notifyUnmasked old new cs s).outside = s.outside := by
  simp only [notifyUnmasked]
  rw [foldl_outside]
  intro s c
  split <;> simp

theorem askSetDebounceTime_outside (r : Request) (v : List Byte) (s : State) :
    ∃ p, (askSetDebounceTime r v s).outside = (s.mapParams fun _ => p).outside := by
  unfold askSetDebounceTime
  rcases setByte_outside r _ v _ _ s with h | ⟨n, h⟩
  · exact ⟨s.params, h⟩
  · exact ⟨_, h⟩

theorem askSetReleaseGuard_outside (r : Request) (v : List Byte) (s : State) :
    ∃ p, (askSetReleaseGuard r v s).outside = (s.mapParams fun _ => p).outside := by
  unfold askSetReleaseGuard
  rcases setByte_outside r _ v _ _ s with h | ⟨n, h⟩
  · exact ⟨s.params, h⟩
  · exact ⟨_, h⟩

theorem askSetGatherTime_outside (r : Request) (v : List Byte) (s : State) :
    ∃ p, (askSetGatherTime r v s).outside = (s.mapParams fun _ => p).outside := by
  unfold askSetGatherTime
  rcases setByte_outside r _ v _ _ s with h | ⟨n, h⟩
  · exact ⟨s.params, h⟩
  · rw [testAttn_outside] at h
    exact ⟨_, h⟩

theorem askSetLowThreshold_outside (r : Request) (v : List Byte) (s : State) :
    ∃ p, (askSetLowThreshold r v s).outside = (s.mapParams fun _ => p).outside := by
  unfold askSetLowThreshold
  rcases setByte_outside r _ v _ _ s with h | ⟨n, h⟩
  · exact ⟨s.params, h⟩
  · rw [testJournalLow_outside] at h
    exact ⟨_, h⟩

theorem askSetCorrectionDepth_outside (r : Request) (v : List Byte) (s : State) :
    ∃ p, (askSetCorrectionDepth r v s).outside = (s.mapParams fun _ => p).outside := by
  simp only [askSetCorrectionDepth, runBlocks_outside]
  rcases setByte_outside r 0x06 v (clamp 0 16) applyDepth s with h | ⟨n, h⟩
  · exact ⟨s.params, h⟩
  · obtain ⟨p, hp⟩ := applyDepth_outside n s
    exact ⟨p, h.trans hp⟩

theorem askSetStuckLimit_outside (r : Request) (v : List Byte) (s : State) :
    ∃ p, (askSetStuckLimit r v s).outside = (s.mapParams fun _ => p).outside := by
  simp only [askSetStuckLimit]
  (repeat' split) <;>
    simp only [answer_outside, answerParam_outside] <;>
    first
      | exact ⟨s.params, rfl⟩
      | exact ⟨_, rfl⟩

theorem askSetStrokeCopy_outside (r : Request) (v : List Byte) (s : State) :
    ∃ p, (askSetStrokeCopy r v s).outside = (s.mapParams fun _ => p).outside := by
  simp only [askSetStrokeCopy]
  (repeat' split) <;>
    simp only [answer_outside, answerParam_outside] <;>
    first
      | exact ⟨s.params, rfl⟩
      | exact ⟨_, rfl⟩

theorem askSetResolvePause_outside (r : Request) (v : List Byte) (s : State) :
    ∃ p, (askSetResolvePause r v s).outside = (s.mapParams fun _ => p).outside := by
  simp only [askSetResolvePause]
  (repeat' split) <;>
    simp only [answer_outside, answerParam_outside] <;>
    first
      | exact ⟨s.params, rfl⟩
      | exact ⟨_, rfl⟩

theorem askSetTriggerLevel_outside (r : Request) (v : List Byte) (s : State) :
    ∃ p, (askSetTriggerLevel r v s).outside = (s.mapParams fun _ => p).outside := by
  simp only [askSetTriggerLevel]
  (repeat' split) <;>
    simp only [answer_outside, answerParam_outside, testAttn_outside] <;>
    first
      | exact ⟨s.params, rfl⟩
      | exact ⟨_, rfl⟩

theorem askSetReportMask_outside (r : Request) (v : List Byte) (s : State) :
    ∃ p, (askSetReportMask r v s).outside = (s.mapParams fun _ => p).outside := by
  simp only [askSetReportMask]
  (repeat' split) <;>
    simp only [answer_outside, answerParam_outside, notifyUnmasked_outside] <;>
    first
      | exact ⟨s.params, rfl⟩
      | exact ⟨_, rfl⟩

theorem askSetMarkTableEntry_outside (r : Request) (v : List Byte) (s : State) :
    ∃ p, (askSetMarkTableEntry r v s).outside = (s.mapParams fun _ => p).outside := by
  simp only [askSetMarkTableEntry, storeMark]
  (repeat' split) <;>
    simp only [answer_outside, answerParam_outside] <;>
    first
      | exact ⟨s.params, rfl⟩
      | exact ⟨_, rfl⟩

theorem askSetJournalRegion_outside (r : Request) (v : List Byte) (s : State) :
    ∃ p, (askSetJournalRegion r v s).outside = (s.mapParams fun _ => p).outside := by
  simp only [askSetJournalRegion, storeRegion]
  (repeat' split) <;>
    simp only [answer_outside, runBlocks_outside, beginScan_outside] <;>
    first
      | exact ⟨s.params, rfl⟩
      | exact ⟨_, rfl⟩

/-! ## Events -/

@[simp] theorem sampleLines_outside (l : Presence) (s : State) : (sampleLines l s).outside = s.outside := by
  simp only [sampleLines]
  rw [foldl_outside _ (fun s i => choose_outside i s)]
  split <;> simp

theorem evaluateKeys_outside (l : Levels) (s : State) :
    ∃ k, (evaluateKeys l s).outside = (s.mapKeys fun _ => k).outside := by
  simp only [evaluateKeys]
  split
  · rw [raise_outside]; exact ⟨_, rfl⟩
  · exact ⟨_, rfl⟩

theorem runEvaluation_outside (l : Levels) (s : State) :
    ∃ k, (runEvaluation l s).outside = (s.mapKeys fun _ => k).outside := by
  simp only [runEvaluation, runBlocks_outside, evaluation]
  split
  · rw [handResult_outside]; exact evaluateKeys_outside l s
  · exact ⟨s.keys, rfl⟩

/-- A walk counts a fault at most, outside. -/
theorem walkRead_base (k : Lookup) (b : List Byte) (s : State) : (walkRead k b s).base = s.base := by
  unfold walkRead
  split
  · exact base_of_outside (by simp)
  · exact base_of_outside (by simp)
  · exact base_of_outside (by simp)
  · rw [base_of_outside (layerDone_outside _ _ _), countMemoryFault_base]
    exact base_of_outside (by simp)

theorem walkRead_outstanding (k : Lookup) (b : List Byte) (s : State) :
    (walkRead k b s).link.outstanding = s.link.outstanding := by
  unfold walkRead
  split
  · exact outstanding_of_outside (by simp)
  · exact outstanding_of_outside (by simp)
  · exact outstanding_of_outside (by simp)
  · rw [outstanding_of_outside (layerDone_outside _ _ _)]
    unfold countMemoryFault
    rw [outstanding_of_outside (raise_outside _ _)]
    rfl

theorem translationOutcome_base (o : OpOutcome) (s : State) : (translationOutcome o s).base = s.base := by
  unfold translationOutcome
  split
  · rfl
  · exact walkRead_base _ _ _
  · exact base_of_outside (by simp)

theorem translationOutcome_outstanding (o : OpOutcome) (s : State) :
    (translationOutcome o s).link.outstanding = s.link.outstanding := by
  unfold translationOutcome
  split
  · rfl
  · exact walkRead_outstanding _ _ _
  · exact outstanding_of_outside (by simp)

/-- The settings load changes the channel table and the parameter store, and nothing else of the base. -/
theorem settingsLoaded_outside (r : Option (List Byte)) (s : State) :
    ∃ p k, (settingsLoaded r s).outside = ((s.mapParams fun _ => p).mapKeys fun _ => k).outside := by
  simp only [settingsLoaded]
  rw [startUpScan_outside, portsTakeStates_outside, setBoot_outside]
  (repeat' split)
  · rename_i bytes _
    refine ⟨loadedParams ((bytes.drop 5).take settingsContent),
      loadedKeys (loadedParams ((bytes.drop 5).take settingsContent)).upLevel
        ((bytes.drop 5).take settingsContent), ?_⟩
    rfl
  · exact ⟨s.params, s.keys, rfl⟩
  · exact ⟨s.params, s.keys, rfl⟩

theorem settingsLoadOutcome_outside (g : List (Option (List Byte))) (o : OpOutcome) (s : State) :
    ∃ p k, (settingsLoadOutcome g o s).outside = ((s.mapParams fun _ => p).mapKeys fun _ => k).outside := by
  unfold settingsLoadOutcome
  dsimp only
  split
  · refine ⟨s.params, s.keys, ?_⟩
    rw [requestLink_outside, setHead_outside]; rfl
  · obtain ⟨p, k, h⟩ := settingsLoaded_outside (joinParts (g ++ [o.bytes?])) (popItem s)
    exact ⟨p, k, h⟩

/-- An item that is not the settings load changes nothing outside as its operation ends. -/
theorem itemOutcome_outside (i : LinkItem) (o : OpOutcome) (s : State) (h : ∀ g, i ≠ .settingsLoad g) :
    (itemOutcome i o s).outside = s.outside := by
  cases i <;> simp only [itemOutcome] <;> first | exact absurd rfl (h _) | simp

theorem linkOutcome_outside_of (o : OpOutcome) (s : State) (h : ∀ g, s.port.items.head? ≠ some (.settingsLoad g)) :
    (linkOutcome o s).outside = s.outside := by
  unfold linkOutcome
  split
  · rfl
  · rename_i i rest hi
    exact itemOutcome_outside i o s (fun g hg => h g (by rw [hi, hg]; rfl))

theorem linkOutcome_outside (o : OpOutcome) (s : State) :
    ∃ p k, (linkOutcome o s).outside = ((s.mapParams fun _ => p).mapKeys fun _ => k).outside := by
  unfold linkOutcome
  split
  · exact ⟨s.params, s.keys, rfl⟩
  · rename_i i rest hi
    by_cases h : ∃ g, i = .settingsLoad g
    · obtain ⟨g, rfl⟩ := h
      exact settingsLoadOutcome_outside g o s
    · exact ⟨s.params, s.keys, itemOutcome_outside i o s (fun g hg => h ⟨g, hg⟩)⟩

/-- The end of an operation leaves the base as it is, but for the settings load. -/
theorem operationEnds_base (f : InFlight) (o : OpOutcome) (s : State)
    (h : ∀ g, s.port.items.head? ≠ some (.settingsLoad g)) : (operationEnds f o s).base = s.base := by
  unfold operationEnds
  dsimp only
  split
  · exact base_of_outside (by simp)
  · split
    · exact base_of_outside (by simp)
    · rw [translationOutcome_base]; exact base_of_outside (by simp)
    · exact base_of_outside ((linkOutcome_outside_of o (freeSlot s) h).trans (by simp))

/-- The end of an operation leaves everything of the base but the channel table and the parameter store. -/
theorem operationEnds_sides (f : InFlight) (o : OpOutcome) (s : State) :
    ∃ p k, (operationEnds f o s).base = ((s.mapParams fun _ => p).mapKeys fun _ => k).base := by
  unfold operationEnds
  dsimp only
  split
  · exact ⟨s.params, s.keys, rfl⟩
  · split
    · exact ⟨s.params, s.keys, base_of_outside (journalOutcome_outside _ _)⟩
    · refine ⟨s.params, s.keys, ?_⟩
      rw [translationOutcome_base]; rfl
    · obtain ⟨p, k, h⟩ := linkOutcome_outside o (freeSlot s)
      exact ⟨p, k, base_of_outside h⟩

theorem operationEnds_outstanding (f : InFlight) (o : OpOutcome) (s : State) :
    (operationEnds f o s).link.outstanding = s.link.outstanding := by
  unfold operationEnds
  dsimp only
  split
  · rfl
  · split
    · rw [outstanding_of_outside (journalOutcome_outside _ _)]; rfl
    · rw [translationOutcome_outstanding]; rfl
    · obtain ⟨p, k, h⟩ := linkOutcome_outside o (freeSlot s)
      exact outstanding_of_outside (s := ((freeSlot s).mapParams fun _ => p).mapKeys fun _ => k) h

end Sys2Proof.Machine
end

