-- ==== Sys2Proof/Laws/Frames.lean ====
section
/-! SUPPORT. What each request leaves alone: the environment (always), the channel table, the parameter
store and the overlay (but for the requests that are theirs). -/

namespace Sys2Proof.Machine

/-! ## From what an owner changes to one part -/

theorem hg_env : ∀ s t : State, t.base = s.base → t.env = s.env := fun _ _ h => (base_eq.1 h).1
theorem env_out {s t : State} (h : t.outside = s.outside) : t.env = s.env := (base_eq.1 (base_of_outside h)).1
theorem env_keys {s t : State} (h : ∃ k, t.outside = (s.mapKeys fun _ => k).outside) : t.env = s.env :=
  by obtain ⟨k, h⟩ := h; exact (base_eq.1 (base_of_outside (s := s.mapKeys fun _ => k) h)).1
theorem env_par {s t : State} (h : ∃ p, t.outside = (s.mapParams fun _ => p).outside) : t.env = s.env :=
  by obtain ⟨k, h⟩ := h; exact (base_eq.1 (base_of_outside (s := s.mapParams fun _ => k) h)).1
theorem env_pk {s t : State} (h : ∃ p k, t.outside = ((s.mapParams fun _ => p).mapKeys fun _ => k).outside) : t.env = s.env :=
  by obtain ⟨p, k, h⟩ := h; exact (base_eq.1 (base_of_outside (s := (s.mapParams fun _ => p).mapKeys fun _ => k) h)).1
theorem env_dict {s t : State} (h : ∃ o, t.outside = (s.mapDict fun d => { d with overlay := o }).outside) : t.env = s.env :=
  by obtain ⟨k, h⟩ := h; exact (base_eq.1 (base_of_outside (s := s.mapDict fun d => { d with overlay := k }) h)).1
theorem requestIdentify_env (t : Byte) (p : List Byte) (s : State) : (requestIdentify t p s).env = s.env :=
  takeRequest_base (fun s => s.env) _ _ _ _ _ s hg_env (fun r p s => env_out (askIdentify_outside r p s))
theorem requestStatus_env (t : Byte) (p : List Byte) (s : State) : (requestStatus t p s).env = s.env :=
  takeRequest_base (fun s => s.env) _ _ _ _ _ s hg_env (fun r p s => env_out (askStatus_outside r p s))
theorem requestGetParam_env (t : Byte) (p : List Byte) (s : State) : (requestGetParam t p s).env = s.env :=
  takeRequest_base (fun s => s.env) _ _ _ _ _ s hg_env (fun r p s => env_out (askGetParam_outside r p s))
theorem requestChannelSet_env (t : Byte) (p : List Byte) (s : State) : (requestChannelSet t p s).env = s.env :=
  takeRequest_base (fun s => s.env) _ _ _ _ _ s hg_env (fun r p s => env_keys (askChannelSet_outside r p s))
theorem requestChannelQuery_env (t : Byte) (p : List Byte) (s : State) : (requestChannelQuery t p s).env = s.env :=
  takeRequest_base (fun s => s.env) _ _ _ _ _ s hg_env (fun r p s => env_out (askChannelQuery_outside r p s))
theorem requestFaultClear_env (t : Byte) (p : List Byte) (s : State) : (requestFaultClear t p s).env = s.env :=
  takeRequest_base (fun s => s.env) _ _ _ _ _ s hg_env (fun r p s => env_keys (askFaultClear_outside r p s))
theorem requestLayerSet_env (t : Byte) (p : List Byte) (s : State) : (requestLayerSet t p s).env = s.env :=
  takeRequest_base (fun s => s.env) _ _ _ _ _ s hg_env (fun r p s => env_out (askLayerSet_outside r p s))
theorem requestLayerQuery_env (t : Byte) (p : List Byte) (s : State) : (requestLayerQuery t p s).env = s.env :=
  takeRequest_base (fun s => s.env) _ _ _ _ _ s hg_env (fun r p s => env_out (askLayerQuery_outside r p s))
theorem requestStoreSettings_env (t : Byte) (p : List Byte) (s : State) : (requestStoreSettings t p s).env = s.env :=
  takeRequest_base (fun s => s.env) _ _ _ _ _ s hg_env (fun r p s => env_out (askStoreSettings_outside r p s))
theorem requestDefine_env (t : Byte) (p : List Byte) (s : State) : (requestDefine t p s).env = s.env :=
  takeRequest_base (fun s => s.env) _ _ _ _ _ s hg_env (fun r p s => env_dict (askDefine_outside r p s))
theorem requestUndefine_env (t : Byte) (p : List Byte) (s : State) : (requestUndefine t p s).env = s.env :=
  takeRequest_base (fun s => s.env) _ _ _ _ _ s hg_env (fun r p s => env_dict (askUndefine_outside r p s))
theorem requestOverlayClear_env (t : Byte) (p : List Byte) (s : State) : (requestOverlayClear t p s).env = s.env :=
  takeRequest_base (fun s => s.env) _ _ _ _ _ s hg_env (fun r p s => env_dict (askOverlayClear_outside r p s))
theorem requestOverlayQuery_env (t : Byte) (p : List Byte) (s : State) : (requestOverlayQuery t p s).env = s.env :=
  takeRequest_base (fun s => s.env) _ _ _ _ _ s hg_env (fun r p s => env_out (askOverlayQuery_outside r p s))
theorem requestProfileSet_env (t : Byte) (p : List Byte) (s : State) : (requestProfileSet t p s).env = s.env :=
  takeRequest_base (fun s => s.env) _ _ _ _ _ s hg_env (fun r p s => env_out (askProfileSet_outside r p s))
theorem requestPortSet_env (t : Byte) (p : List Byte) (s : State) : (requestPortSet t p s).env = s.env :=
  takeRequest_base (fun s => s.env) _ _ _ _ _ s hg_env (fun r p s => env_out (askPortSet_outside r p s))
theorem requestPortQuery_env (t : Byte) (p : List Byte) (s : State) : (requestPortQuery t p s).env = s.env :=
  takeRequest_base (fun s => s.env) _ _ _ _ _ s hg_env (fun r p s => env_out (askPortQuery_outside r p s))
theorem requestJobOpen_env (t : Byte) (p : List Byte) (s : State) : (requestJobOpen t p s).env = s.env :=
  takeRequest_base (fun s => s.env) _ _ _ _ _ s hg_env (fun r p s => env_out (askJobOpen_outside r p s))
theorem requestJobClose_env (t : Byte) (p : List Byte) (s : State) : (requestJobClose t p s).env = s.env :=
  takeRequest_base (fun s => s.env) _ _ _ _ _ s hg_env (fun r p s => env_out (askJobClose_outside r p s))
theorem requestJobAbort_env (t : Byte) (p : List Byte) (s : State) : (requestJobAbort t p s).env = s.env :=
  takeRequest_base (fun s => s.env) _ _ _ _ _ s hg_env (fun r p s => env_out (askJobAbort_outside r p s))
theorem requestStrike_env (t : Byte) (p : List Byte) (s : State) : (requestStrike t p s).env = s.env :=
  takeRequest_base (fun s => s.env) _ _ _ _ _ s hg_env (fun r p s => env_out (askStrike_outside r p s))
theorem requestJournalSeek_env (t : Byte) (p : List Byte) (s : State) : (requestJournalSeek t p s).env = s.env :=
  takeRequest_base (fun s => s.env) _ _ _ _ _ s hg_env (fun r p s => env_out (askJournalSeek_outside r p s))
theorem requestJournalRead_env (t : Byte) (p : List Byte) (s : State) : (requestJournalRead t p s).env = s.env :=
  takeRequest_base (fun s => s.env) _ _ _ _ _ s hg_env (fun r p s => env_out (askJournalRead_outside r p s))
theorem requestJournalErase_env (t : Byte) (p : List Byte) (s : State) : (requestJournalErase t p s).env = s.env :=
  takeRequest_base (fun s => s.env) _ _ _ _ _ s hg_env (fun r p s => env_out (askJournalErase_outside r p s))
theorem requestImageRead_env (t : Byte) (p : List Byte) (s : State) : (requestImageRead t p s).env = s.env :=
  takeRequest_base (fun s => s.env) _ _ _ _ _ s hg_env (fun r p s => env_out (askImageRead_outside r p s))
theorem requestImageWrite_env (t : Byte) (p : List Byte) (s : State) : (requestImageWrite t p s).env = s.env :=
  takeRequest_base (fun s => s.env) _ _ _ _ _ s hg_env (fun r p s => env_out (askImageWrite_outside r p s))
theorem requestImageErase_env (t : Byte) (p : List Byte) (s : State) : (requestImageErase t p s).env = s.env :=
  takeRequest_base (fun s => s.env) _ _ _ _ _ s hg_env (fun r p s => env_out (askImageErase_outside r p s))
theorem requestConditionQuery_env (t : Byte) (p : List Byte) (s : State) : (requestConditionQuery t p s).env = s.env :=
  takeRequest_base (fun s => s.env) _ _ _ _ _ s hg_env (fun r p s => env_out (askConditionQuery_outside r p s))
theorem requestConditionClear_env (t : Byte) (p : List Byte) (s : State) : (requestConditionClear t p s).env = s.env :=
  takeRequest_base (fun s => s.env) _ _ _ _ _ s hg_env (fun r p s => env_out (askConditionClear_outside r p s))
theorem requestMark_env (t : Byte) (p : List Byte) (s : State) : (requestMark t p s).env = s.env :=
  takeRequest_base (fun s => s.env) _ _ _ _ _ s hg_env (fun r p s => env_out (askMark_outside r p s))
theorem requestSetUpLevel_env (t : Byte) (p : List Byte) (s : State) : (requestSetUpLevel t p s).env = s.env :=
  takeRequest_base (fun s => s.env) _ _ _ _ _ s hg_env (fun r p s => env_pk (askSetUpLevel_outside r p s))
theorem requestSetDebounceTime_env (t : Byte) (p : List Byte) (s : State) : (requestSetDebounceTime t p s).env = s.env :=
  takeRequest_base (fun s => s.env) _ _ _ _ _ s hg_env (fun r p s => env_par (askSetDebounceTime_outside r p s))
theorem requestSetStuckLimit_env (t : Byte) (p : List Byte) (s : State) : (requestSetStuckLimit t p s).env = s.env :=
  takeRequest_base (fun s => s.env) _ _ _ _ _ s hg_env (fun r p s => env_par (askSetStuckLimit_outside r p s))
theorem requestSetReleaseGuard_env (t : Byte) (p : List Byte) (s : State) : (requestSetReleaseGuard t p s).env = s.env :=
  takeRequest_base (fun s => s.env) _ _ _ _ _ s hg_env (fun r p s => env_par (askSetReleaseGuard_outside r p s))
theorem requestSetStrokeCopy_env (t : Byte) (p : List Byte) (s : State) : (requestSetStrokeCopy t p s).env = s.env :=
  takeRequest_base (fun s => s.env) _ _ _ _ _ s hg_env (fun r p s => env_par (askSetStrokeCopy_outside r p s))
theorem requestSetCorrectionDepth_env (t : Byte) (p : List Byte) (s : State) : (requestSetCorrectionDepth t p s).env = s.env :=
  takeRequest_base (fun s => s.env) _ _ _ _ _ s hg_env (fun r p s => env_par (askSetCorrectionDepth_outside r p s))
theorem requestSetResolvePause_env (t : Byte) (p : List Byte) (s : State) : (requestSetResolvePause t p s).env = s.env :=
  takeRequest_base (fun s => s.env) _ _ _ _ _ s hg_env (fun r p s => env_par (askSetResolvePause_outside r p s))
theorem requestSetTriggerLevel_env (t : Byte) (p : List Byte) (s : State) : (requestSetTriggerLevel t p s).env = s.env :=
  takeRequest_base (fun s => s.env) _ _ _ _ _ s hg_env (fun r p s => env_par (askSetTriggerLevel_outside r p s))
theorem requestSetGatherTime_env (t : Byte) (p : List Byte) (s : State) : (requestSetGatherTime t p s).env = s.env :=
  takeRequest_base (fun s => s.env) _ _ _ _ _ s hg_env (fun r p s => env_par (askSetGatherTime_outside r p s))
theorem requestSetJournalRegion_env (t : Byte) (p : List Byte) (s : State) : (requestSetJournalRegion t p s).env = s.env :=
  takeRequest_base (fun s => s.env) _ _ _ _ _ s hg_env (fun r p s => env_par (askSetJournalRegion_outside r p s))
theorem requestSetLowThreshold_env (t : Byte) (p : List Byte) (s : State) : (requestSetLowThreshold t p s).env = s.env :=
  takeRequest_base (fun s => s.env) _ _ _ _ _ s hg_env (fun r p s => env_par (askSetLowThreshold_outside r p s))
theorem requestSetMarkTableEntry_env (t : Byte) (p : List Byte) (s : State) : (requestSetMarkTableEntry t p s).env = s.env :=
  takeRequest_base (fun s => s.env) _ _ _ _ _ s hg_env (fun r p s => env_par (askSetMarkTableEntry_outside r p s))
theorem requestSetReportMask_env (t : Byte) (p : List Byte) (s : State) : (requestSetReportMask t p s).env = s.env :=
  takeRequest_base (fun s => s.env) _ _ _ _ _ s hg_env (fun r p s => env_par (askSetReportMask_outside r p s))
theorem requestSetParamUnknownIdentifier_env (t : Byte) (p : List Byte) (s : State) : (requestSetParamUnknownIdentifier t p s).env = s.env :=
  takeRequest_base (fun s => s.env) _ _ _ _ _ s hg_env (fun r p s => env_out (askSetParamUnknown_outside r p s))
theorem hg_keys : ∀ s t : State, t.base = s.base → t.keys = s.keys := fun _ _ h => (base_eq.1 h).2.1
theorem keys_out {s t : State} (h : t.outside = s.outside) : t.keys = s.keys :=
  (base_eq.1 (base_of_outside h)).2.1
theorem keys_par {s t : State} (h : ∃ p, t.outside = (s.mapParams fun _ => p).outside) : t.keys = s.keys :=
  by obtain ⟨k, h⟩ := h; exact (base_eq.1 (base_of_outside (s := s.mapParams fun _ => k) h)).2.1
theorem keys_dict {s t : State} (h : ∃ o, t.outside = (s.mapDict fun d => { d with overlay := o }).outside) : t.keys = s.keys :=
  by obtain ⟨k, h⟩ := h; exact (base_eq.1 (base_of_outside (s := s.mapDict fun d => { d with overlay := k }) h)).2.1
theorem requestIdentify_keys (t : Byte) (p : List Byte) (s : State) : (requestIdentify t p s).keys = s.keys :=
  takeRequest_base (fun s => s.keys) _ _ _ _ _ s hg_keys (fun r p s => keys_out (askIdentify_outside r p s))
theorem requestStatus_keys (t : Byte) (p : List Byte) (s : State) : (requestStatus t p s).keys = s.keys :=
  takeRequest_base (fun s => s.keys) _ _ _ _ _ s hg_keys (fun r p s => keys_out (askStatus_outside r p s))
theorem requestGetParam_keys (t : Byte) (p : List Byte) (s : State) : (requestGetParam t p s).keys = s.keys :=
  takeRequest_base (fun s => s.keys) _ _ _ _ _ s hg_keys (fun r p s => keys_out (askGetParam_outside r p s))
theorem requestChannelQuery_keys (t : Byte) (p : List Byte) (s : State) : (requestChannelQuery t p s).keys = s.keys :=
  takeRequest_base (fun s => s.keys) _ _ _ _ _ s hg_keys (fun r p s => keys_out (askChannelQuery_outside r p s))
theorem requestLayerSet_keys (t : Byte) (p : List Byte) (s : State) : (requestLayerSet t p s).keys = s.keys :=
  takeRequest_base (fun s => s.keys) _ _ _ _ _ s hg_keys (fun r p s => keys_out (askLayerSet_outside r p s))
theorem requestLayerQuery_keys (t : Byte) (p : List Byte) (s : State) : (requestLayerQuery t p s).keys = s.keys :=
  takeRequest_base (fun s => s.keys) _ _ _ _ _ s hg_keys (fun r p s => keys_out (askLayerQuery_outside r p s))
theorem requestStoreSettings_keys (t : Byte) (p : List Byte) (s : State) : (requestStoreSettings t p s).keys = s.keys :=
  takeRequest_base (fun s => s.keys) _ _ _ _ _ s hg_keys (fun r p s => keys_out (askStoreSettings_outside r p s))
theorem requestDefine_keys (t : Byte) (p : List Byte) (s : State) : (requestDefine t p s).keys = s.keys :=
  takeRequest_base (fun s => s.keys) _ _ _ _ _ s hg_keys (fun r p s => keys_dict (askDefine_outside r p s))
theorem requestUndefine_keys (t : Byte) (p : List Byte) (s : State) : (requestUndefine t p s).keys = s.keys :=
  takeRequest_base (fun s => s.keys) _ _ _ _ _ s hg_keys (fun r p s => keys_dict (askUndefine_outside r p s))
theorem requestOverlayClear_keys (t : Byte) (p : List Byte) (s : State) : (requestOverlayClear t p s).keys = s.keys :=
  takeRequest_base (fun s => s.keys) _ _ _ _ _ s hg_keys (fun r p s => keys_dict (askOverlayClear_outside r p s))
theorem requestOverlayQuery_keys (t : Byte) (p : List Byte) (s : State) : (requestOverlayQuery t p s).keys = s.keys :=
  takeRequest_base (fun s => s.keys) _ _ _ _ _ s hg_keys (fun r p s => keys_out (askOverlayQuery_outside r p s))
theorem requestProfileSet_keys (t : Byte) (p : List Byte) (s : State) : (requestProfileSet t p s).keys = s.keys :=
  takeRequest_base (fun s => s.keys) _ _ _ _ _ s hg_keys (fun r p s => keys_out (askProfileSet_outside r p s))
theorem requestPortSet_keys (t : Byte) (p : List Byte) (s : State) : (requestPortSet t p s).keys = s.keys :=
  takeRequest_base (fun s => s.keys) _ _ _ _ _ s hg_keys (fun r p s => keys_out (askPortSet_outside r p s))
theorem requestPortQuery_keys (t : Byte) (p : List Byte) (s : State) : (requestPortQuery t p s).keys = s.keys :=
  takeRequest_base (fun s => s.keys) _ _ _ _ _ s hg_keys (fun r p s => keys_out (askPortQuery_outside r p s))
theorem requestJobOpen_keys (t : Byte) (p : List Byte) (s : State) : (requestJobOpen t p s).keys = s.keys :=
  takeRequest_base (fun s => s.keys) _ _ _ _ _ s hg_keys (fun r p s => keys_out (askJobOpen_outside r p s))
theorem requestJobClose_keys (t : Byte) (p : List Byte) (s : State) : (requestJobClose t p s).keys = s.keys :=
  takeRequest_base (fun s => s.keys) _ _ _ _ _ s hg_keys (fun r p s => keys_out (askJobClose_outside r p s))
theorem requestJobAbort_keys (t : Byte) (p : List Byte) (s : State) : (requestJobAbort t p s).keys = s.keys :=
  takeRequest_base (fun s => s.keys) _ _ _ _ _ s hg_keys (fun r p s => keys_out (askJobAbort_outside r p s))
theorem requestStrike_keys (t : Byte) (p : List Byte) (s : State) : (requestStrike t p s).keys = s.keys :=
  takeRequest_base (fun s => s.keys) _ _ _ _ _ s hg_keys (fun r p s => keys_out (askStrike_outside r p s))
theorem requestJournalSeek_keys (t : Byte) (p : List Byte) (s : State) : (requestJournalSeek t p s).keys = s.keys :=
  takeRequest_base (fun s => s.keys) _ _ _ _ _ s hg_keys (fun r p s => keys_out (askJournalSeek_outside r p s))
theorem requestJournalRead_keys (t : Byte) (p : List Byte) (s : State) : (requestJournalRead t p s).keys = s.keys :=
  takeRequest_base (fun s => s.keys) _ _ _ _ _ s hg_keys (fun r p s => keys_out (askJournalRead_outside r p s))
theorem requestJournalErase_keys (t : Byte) (p : List Byte) (s : State) : (requestJournalErase t p s).keys = s.keys :=
  takeRequest_base (fun s => s.keys) _ _ _ _ _ s hg_keys (fun r p s => keys_out (askJournalErase_outside r p s))
theorem requestImageRead_keys (t : Byte) (p : List Byte) (s : State) : (requestImageRead t p s).keys = s.keys :=
  takeRequest_base (fun s => s.keys) _ _ _ _ _ s hg_keys (fun r p s => keys_out (askImageRead_outside r p s))
theorem requestImageWrite_keys (t : Byte) (p : List Byte) (s : State) : (requestImageWrite t p s).keys = s.keys :=
  takeRequest_base (fun s => s.keys) _ _ _ _ _ s hg_keys (fun r p s => keys_out (askImageWrite_outside r p s))
theorem requestImageErase_keys (t : Byte) (p : List Byte) (s : State) : (requestImageErase t p s).keys = s.keys :=
  takeRequest_base (fun s => s.keys) _ _ _ _ _ s hg_keys (fun r p s => keys_out (askImageErase_outside r p s))
theorem requestConditionQuery_keys (t : Byte) (p : List Byte) (s : State) : (requestConditionQuery t p s).keys = s.keys :=
  takeRequest_base (fun s => s.keys) _ _ _ _ _ s hg_keys (fun r p s => keys_out (askConditionQuery_outside r p s))
theorem requestConditionClear_keys (t : Byte) (p : List Byte) (s : State) : (requestConditionClear t p s).keys = s.keys :=
  takeRequest_base (fun s => s.keys) _ _ _ _ _ s hg_keys (fun r p s => keys_out (askConditionClear_outside r p s))
theorem requestMark_keys (t : Byte) (p : List Byte) (s : State) : (requestMark t p s).keys = s.keys :=
  takeRequest_base (fun s => s.keys) _ _ _ _ _ s hg_keys (fun r p s => keys_out (askMark_outside r p s))
theorem requestSetDebounceTime_keys (t : Byte) (p : List Byte) (s : State) : (requestSetDebounceTime t p s).keys = s.keys :=
  takeRequest_base (fun s => s.keys) _ _ _ _ _ s hg_keys (fun r p s => keys_par (askSetDebounceTime_outside r p s))
theorem requestSetStuckLimit_keys (t : Byte) (p : List Byte) (s : State) : (requestSetStuckLimit t p s).keys = s.keys :=
  takeRequest_base (fun s => s.keys) _ _ _ _ _ s hg_keys (fun r p s => keys_par (askSetStuckLimit_outside r p s))
theorem requestSetReleaseGuard_keys (t : Byte) (p : List Byte) (s : State) : (requestSetReleaseGuard t p s).keys = s.keys :=
  takeRequest_base (fun s => s.keys) _ _ _ _ _ s hg_keys (fun r p s => keys_par (askSetReleaseGuard_outside r p s))
theorem requestSetStrokeCopy_keys (t : Byte) (p : List Byte) (s : State) : (requestSetStrokeCopy t p s).keys = s.keys :=
  takeRequest_base (fun s => s.keys) _ _ _ _ _ s hg_keys (fun r p s => keys_par (askSetStrokeCopy_outside r p s))
theorem requestSetCorrectionDepth_keys (t : Byte) (p : List Byte) (s : State) : (requestSetCorrectionDepth t p s).keys = s.keys :=
  takeRequest_base (fun s => s.keys) _ _ _ _ _ s hg_keys (fun r p s => keys_par (askSetCorrectionDepth_outside r p s))
theorem requestSetResolvePause_keys (t : Byte) (p : List Byte) (s : State) : (requestSetResolvePause t p s).keys = s.keys :=
  takeRequest_base (fun s => s.keys) _ _ _ _ _ s hg_keys (fun r p s => keys_par (askSetResolvePause_outside r p s))
theorem requestSetTriggerLevel_keys (t : Byte) (p : List Byte) (s : State) : (requestSetTriggerLevel t p s).keys = s.keys :=
  takeRequest_base (fun s => s.keys) _ _ _ _ _ s hg_keys (fun r p s => keys_par (askSetTriggerLevel_outside r p s))
theorem requestSetGatherTime_keys (t : Byte) (p : List Byte) (s : State) : (requestSetGatherTime t p s).keys = s.keys :=
  takeRequest_base (fun s => s.keys) _ _ _ _ _ s hg_keys (fun r p s => keys_par (askSetGatherTime_outside r p s))
theorem requestSetJournalRegion_keys (t : Byte) (p : List Byte) (s : State) : (requestSetJournalRegion t p s).keys = s.keys :=
  takeRequest_base (fun s => s.keys) _ _ _ _ _ s hg_keys (fun r p s => keys_par (askSetJournalRegion_outside r p s))
theorem requestSetLowThreshold_keys (t : Byte) (p : List Byte) (s : State) : (requestSetLowThreshold t p s).keys = s.keys :=
  takeRequest_base (fun s => s.keys) _ _ _ _ _ s hg_keys (fun r p s => keys_par (askSetLowThreshold_outside r p s))
theorem requestSetMarkTableEntry_keys (t : Byte) (p : List Byte) (s : State) : (requestSetMarkTableEntry t p s).keys = s.keys :=
  takeRequest_base (fun s => s.keys) _ _ _ _ _ s hg_keys (fun r p s => keys_par (askSetMarkTableEntry_outside r p s))
theorem requestSetReportMask_keys (t : Byte) (p : List Byte) (s : State) : (requestSetReportMask t p s).keys = s.keys :=
  takeRequest_base (fun s => s.keys) _ _ _ _ _ s hg_keys (fun r p s => keys_par (askSetReportMask_outside r p s))
theorem requestSetParamUnknownIdentifier_keys (t : Byte) (p : List Byte) (s : State) : (requestSetParamUnknownIdentifier t p s).keys = s.keys :=
  takeRequest_base (fun s => s.keys) _ _ _ _ _ s hg_keys (fun r p s => keys_out (askSetParamUnknown_outside r p s))
theorem hg_params : ∀ s t : State, t.base = s.base → t.params = s.params := fun _ _ h => (base_eq.1 h).2.2.1
theorem params_out {s t : State} (h : t.outside = s.outside) : t.params = s.params :=
  (base_eq.1 (base_of_outside h)).2.2.1
theorem params_keys {s t : State} (h : ∃ k, t.outside = (s.mapKeys fun _ => k).outside) : t.params = s.params :=
  by obtain ⟨k, h⟩ := h; exact (base_eq.1 (base_of_outside (s := s.mapKeys fun _ => k) h)).2.2.1
theorem params_dict {s t : State} (h : ∃ o, t.outside = (s.mapDict fun d => { d with overlay := o }).outside) : t.params = s.params :=
  by obtain ⟨k, h⟩ := h; exact (base_eq.1 (base_of_outside (s := s.mapDict fun d => { d with overlay := k }) h)).2.2.1
theorem requestIdentify_params (t : Byte) (p : List Byte) (s : State) : (requestIdentify t p s).params = s.params :=
  takeRequest_base (fun s => s.params) _ _ _ _ _ s hg_params (fun r p s => params_out (askIdentify_outside r p s))
theorem requestStatus_params (t : Byte) (p : List Byte) (s : State) : (requestStatus t p s).params = s.params :=
  takeRequest_base (fun s => s.params) _ _ _ _ _ s hg_params (fun r p s => params_out (askStatus_outside r p s))
theorem requestGetParam_params (t : Byte) (p : List Byte) (s : State) : (requestGetParam t p s).params = s.params :=
  takeRequest_base (fun s => s.params) _ _ _ _ _ s hg_params (fun r p s => params_out (askGetParam_outside r p s))
theorem requestChannelSet_params (t : Byte) (p : List Byte) (s : State) : (requestChannelSet t p s).params = s.params :=
  takeRequest_base (fun s => s.params) _ _ _ _ _ s hg_params (fun r p s => params_keys (askChannelSet_outside r p s))
theorem requestChannelQuery_params (t : Byte) (p : List Byte) (s : State) : (requestChannelQuery t p s).params = s.params :=
  takeRequest_base (fun s => s.params) _ _ _ _ _ s hg_params (fun r p s => params_out (askChannelQuery_outside r p s))
theorem requestFaultClear_params (t : Byte) (p : List Byte) (s : State) : (requestFaultClear t p s).params = s.params :=
  takeRequest_base (fun s => s.params) _ _ _ _ _ s hg_params (fun r p s => params_keys (askFaultClear_outside r p s))
theorem requestLayerSet_params (t : Byte) (p : List Byte) (s : State) : (requestLayerSet t p s).params = s.params :=
  takeRequest_base (fun s => s.params) _ _ _ _ _ s hg_params (fun r p s => params_out (askLayerSet_outside r p s))
theorem requestLayerQuery_params (t : Byte) (p : List Byte) (s : State) : (requestLayerQuery t p s).params = s.params :=
  takeRequest_base (fun s => s.params) _ _ _ _ _ s hg_params (fun r p s => params_out (askLayerQuery_outside r p s))
theorem requestStoreSettings_params (t : Byte) (p : List Byte) (s : State) : (requestStoreSettings t p s).params = s.params :=
  takeRequest_base (fun s => s.params) _ _ _ _ _ s hg_params (fun r p s => params_out (askStoreSettings_outside r p s))
theorem requestDefine_params (t : Byte) (p : List Byte) (s : State) : (requestDefine t p s).params = s.params :=
  takeRequest_base (fun s => s.params) _ _ _ _ _ s hg_params (fun r p s => params_dict (askDefine_outside r p s))
theorem requestUndefine_params (t : Byte) (p : List Byte) (s : State) : (requestUndefine t p s).params = s.params :=
  takeRequest_base (fun s => s.params) _ _ _ _ _ s hg_params (fun r p s => params_dict (askUndefine_outside r p s))
theorem requestOverlayClear_params (t : Byte) (p : List Byte) (s : State) : (requestOverlayClear t p s).params = s.params :=
  takeRequest_base (fun s => s.params) _ _ _ _ _ s hg_params (fun r p s => params_dict (askOverlayClear_outside r p s))
theorem requestOverlayQuery_params (t : Byte) (p : List Byte) (s : State) : (requestOverlayQuery t p s).params = s.params :=
  takeRequest_base (fun s => s.params) _ _ _ _ _ s hg_params (fun r p s => params_out (askOverlayQuery_outside r p s))
theorem requestProfileSet_params (t : Byte) (p : List Byte) (s : State) : (requestProfileSet t p s).params = s.params :=
  takeRequest_base (fun s => s.params) _ _ _ _ _ s hg_params (fun r p s => params_out (askProfileSet_outside r p s))
theorem requestPortSet_params (t : Byte) (p : List Byte) (s : State) : (requestPortSet t p s).params = s.params :=
  takeRequest_base (fun s => s.params) _ _ _ _ _ s hg_params (fun r p s => params_out (askPortSet_outside r p s))
theorem requestPortQuery_params (t : Byte) (p : List Byte) (s : State) : (requestPortQuery t p s).params = s.params :=
  takeRequest_base (fun s => s.params) _ _ _ _ _ s hg_params (fun r p s => params_out (askPortQuery_outside r p s))
theorem requestJobOpen_params (t : Byte) (p : List Byte) (s : State) : (requestJobOpen t p s).params = s.params :=
  takeRequest_base (fun s => s.params) _ _ _ _ _ s hg_params (fun r p s => params_out (askJobOpen_outside r p s))
theorem requestJobClose_params (t : Byte) (p : List Byte) (s : State) : (requestJobClose t p s).params = s.params :=
  takeRequest_base (fun s => s.params) _ _ _ _ _ s hg_params (fun r p s => params_out (askJobClose_outside r p s))
theorem requestJobAbort_params (t : Byte) (p : List Byte) (s : State) : (requestJobAbort t p s).params = s.params :=
  takeRequest_base (fun s => s.params) _ _ _ _ _ s hg_params (fun r p s => params_out (askJobAbort_outside r p s))
theorem requestStrike_params (t : Byte) (p : List Byte) (s : State) : (requestStrike t p s).params = s.params :=
  takeRequest_base (fun s => s.params) _ _ _ _ _ s hg_params (fun r p s => params_out (askStrike_outside r p s))
theorem requestJournalSeek_params (t : Byte) (p : List Byte) (s : State) : (requestJournalSeek t p s).params = s.params :=
  takeRequest_base (fun s => s.params) _ _ _ _ _ s hg_params (fun r p s => params_out (askJournalSeek_outside r p s))
theorem requestJournalRead_params (t : Byte) (p : List Byte) (s : State) : (requestJournalRead t p s).params = s.params :=
  takeRequest_base (fun s => s.params) _ _ _ _ _ s hg_params (fun r p s => params_out (askJournalRead_outside r p s))
theorem requestJournalErase_params (t : Byte) (p : List Byte) (s : State) : (requestJournalErase t p s).params = s.params :=
  takeRequest_base (fun s => s.params) _ _ _ _ _ s hg_params (fun r p s => params_out (askJournalErase_outside r p s))
theorem requestImageRead_params (t : Byte) (p : List Byte) (s : State) : (requestImageRead t p s).params = s.params :=
  takeRequest_base (fun s => s.params) _ _ _ _ _ s hg_params (fun r p s => params_out (askImageRead_outside r p s))
theorem requestImageWrite_params (t : Byte) (p : List Byte) (s : State) : (requestImageWrite t p s).params = s.params :=
  takeRequest_base (fun s => s.params) _ _ _ _ _ s hg_params (fun r p s => params_out (askImageWrite_outside r p s))
theorem requestImageErase_params (t : Byte) (p : List Byte) (s : State) : (requestImageErase t p s).params = s.params :=
  takeRequest_base (fun s => s.params) _ _ _ _ _ s hg_params (fun r p s => params_out (askImageErase_outside r p s))
theorem requestConditionQuery_params (t : Byte) (p : List Byte) (s : State) : (requestConditionQuery t p s).params = s.params :=
  takeRequest_base (fun s => s.params) _ _ _ _ _ s hg_params (fun r p s => params_out (askConditionQuery_outside r p s))
theorem requestConditionClear_params (t : Byte) (p : List Byte) (s : State) : (requestConditionClear t p s).params = s.params :=
  takeRequest_base (fun s => s.params) _ _ _ _ _ s hg_params (fun r p s => params_out (askConditionClear_outside r p s))
theorem requestMark_params (t : Byte) (p : List Byte) (s : State) : (requestMark t p s).params = s.params :=
  takeRequest_base (fun s => s.params) _ _ _ _ _ s hg_params (fun r p s => params_out (askMark_outside r p s))
theorem requestSetParamUnknownIdentifier_params (t : Byte) (p : List Byte) (s : State) : (requestSetParamUnknownIdentifier t p s).params = s.params :=
  takeRequest_base (fun s => s.params) _ _ _ _ _ s hg_params (fun r p s => params_out (askSetParamUnknown_outside r p s))
theorem hg_ov : ∀ s t : State, t.base = s.base → t.dict.overlay = s.dict.overlay :=
  fun _ _ h => (base_eq.1 h).2.2.2
theorem ov_out {s t : State} (h : t.outside = s.outside) : t.dict.overlay = s.dict.overlay :=
  (base_eq.1 (base_of_outside h)).2.2.2
theorem ov_keys {s t : State} (h : ∃ k, t.outside = (s.mapKeys fun _ => k).outside) : t.dict.overlay = s.dict.overlay :=
  by obtain ⟨k, h⟩ := h; exact (base_eq.1 (base_of_outside (s := s.mapKeys fun _ => k) h)).2.2.2
theorem ov_par {s t : State} (h : ∃ p, t.outside = (s.mapParams fun _ => p).outside) : t.dict.overlay = s.dict.overlay :=
  by obtain ⟨k, h⟩ := h; exact (base_eq.1 (base_of_outside (s := s.mapParams fun _ => k) h)).2.2.2
theorem ov_pk {s t : State} (h : ∃ p k, t.outside = ((s.mapParams fun _ => p).mapKeys fun _ => k).outside) : t.dict.overlay = s.dict.overlay :=
  by obtain ⟨p, k, h⟩ := h; exact (base_eq.1 (base_of_outside (s := (s.mapParams fun _ => p).mapKeys fun _ => k) h)).2.2.2
theorem requestIdentify_ov (t : Byte) (p : List Byte) (s : State) : (requestIdentify t p s).dict.overlay = s.dict.overlay :=
  takeRequest_base (fun s => s.dict.overlay) _ _ _ _ _ s hg_ov (fun r p s => ov_out (askIdentify_outside r p s))
theorem requestStatus_ov (t : Byte) (p : List Byte) (s : State) : (requestStatus t p s).dict.overlay = s.dict.overlay :=
  takeRequest_base (fun s => s.dict.overlay) _ _ _ _ _ s hg_ov (fun r p s => ov_out (askStatus_outside r p s))
theorem requestGetParam_ov (t : Byte) (p : List Byte) (s : State) : (requestGetParam t p s).dict.overlay = s.dict.overlay :=
  takeRequest_base (fun s => s.dict.overlay) _ _ _ _ _ s hg_ov (fun r p s => ov_out (askGetParam_outside r p s))
theorem requestChannelSet_ov (t : Byte) (p : List Byte) (s : State) : (requestChannelSet t p s).dict.overlay = s.dict.overlay :=
  takeRequest_base (fun s => s.dict.overlay) _ _ _ _ _ s hg_ov (fun r p s => ov_keys (askChannelSet_outside r p s))
theorem requestChannelQuery_ov (t : Byte) (p : List Byte) (s : State) : (requestChannelQuery t p s).dict.overlay = s.dict.overlay :=
  takeRequest_base (fun s => s.dict.overlay) _ _ _ _ _ s hg_ov (fun r p s => ov_out (askChannelQuery_outside r p s))
theorem requestFaultClear_ov (t : Byte) (p : List Byte) (s : State) : (requestFaultClear t p s).dict.overlay = s.dict.overlay :=
  takeRequest_base (fun s => s.dict.overlay) _ _ _ _ _ s hg_ov (fun r p s => ov_keys (askFaultClear_outside r p s))
theorem requestLayerSet_ov (t : Byte) (p : List Byte) (s : State) : (requestLayerSet t p s).dict.overlay = s.dict.overlay :=
  takeRequest_base (fun s => s.dict.overlay) _ _ _ _ _ s hg_ov (fun r p s => ov_out (askLayerSet_outside r p s))
theorem requestLayerQuery_ov (t : Byte) (p : List Byte) (s : State) : (requestLayerQuery t p s).dict.overlay = s.dict.overlay :=
  takeRequest_base (fun s => s.dict.overlay) _ _ _ _ _ s hg_ov (fun r p s => ov_out (askLayerQuery_outside r p s))
theorem requestStoreSettings_ov (t : Byte) (p : List Byte) (s : State) : (requestStoreSettings t p s).dict.overlay = s.dict.overlay :=
  takeRequest_base (fun s => s.dict.overlay) _ _ _ _ _ s hg_ov (fun r p s => ov_out (askStoreSettings_outside r p s))
theorem requestOverlayQuery_ov (t : Byte) (p : List Byte) (s : State) : (requestOverlayQuery t p s).dict.overlay = s.dict.overlay :=
  takeRequest_base (fun s => s.dict.overlay) _ _ _ _ _ s hg_ov (fun r p s => ov_out (askOverlayQuery_outside r p s))
theorem requestProfileSet_ov (t : Byte) (p : List Byte) (s : State) : (requestProfileSet t p s).dict.overlay = s.dict.overlay :=
  takeRequest_base (fun s => s.dict.overlay) _ _ _ _ _ s hg_ov (fun r p s => ov_out (askProfileSet_outside r p s))
theorem requestPortSet_ov (t : Byte) (p : List Byte) (s : State) : (requestPortSet t p s).dict.overlay = s.dict.overlay :=
  takeRequest_base (fun s => s.dict.overlay) _ _ _ _ _ s hg_ov (fun r p s => ov_out (askPortSet_outside r p s))
theorem requestPortQuery_ov (t : Byte) (p : List Byte) (s : State) : (requestPortQuery t p s).dict.overlay = s.dict.overlay :=
  takeRequest_base (fun s => s.dict.overlay) _ _ _ _ _ s hg_ov (fun r p s => ov_out (askPortQuery_outside r p s))
theorem requestJobOpen_ov (t : Byte) (p : List Byte) (s : State) : (requestJobOpen t p s).dict.overlay = s.dict.overlay :=
  takeRequest_base (fun s => s.dict.overlay) _ _ _ _ _ s hg_ov (fun r p s => ov_out (askJobOpen_outside r p s))
theorem requestJobClose_ov (t : Byte) (p : List Byte) (s : State) : (requestJobClose t p s).dict.overlay = s.dict.overlay :=
  takeRequest_base (fun s => s.dict.overlay) _ _ _ _ _ s hg_ov (fun r p s => ov_out (askJobClose_outside r p s))
theorem requestJobAbort_ov (t : Byte) (p : List Byte) (s : State) : (requestJobAbort t p s).dict.overlay = s.dict.overlay :=
  takeRequest_base (fun s => s.dict.overlay) _ _ _ _ _ s hg_ov (fun r p s => ov_out (askJobAbort_outside r p s))
theorem requestStrike_ov (t : Byte) (p : List Byte) (s : State) : (requestStrike t p s).dict.overlay = s.dict.overlay :=
  takeRequest_base (fun s => s.dict.overlay) _ _ _ _ _ s hg_ov (fun r p s => ov_out (askStrike_outside r p s))
theorem requestJournalSeek_ov (t : Byte) (p : List Byte) (s : State) : (requestJournalSeek t p s).dict.overlay = s.dict.overlay :=
  takeRequest_base (fun s => s.dict.overlay) _ _ _ _ _ s hg_ov (fun r p s => ov_out (askJournalSeek_outside r p s))
theorem requestJournalRead_ov (t : Byte) (p : List Byte) (s : State) : (requestJournalRead t p s).dict.overlay = s.dict.overlay :=
  takeRequest_base (fun s => s.dict.overlay) _ _ _ _ _ s hg_ov (fun r p s => ov_out (askJournalRead_outside r p s))
theorem requestJournalErase_ov (t : Byte) (p : List Byte) (s : State) : (requestJournalErase t p s).dict.overlay = s.dict.overlay :=
  takeRequest_base (fun s => s.dict.overlay) _ _ _ _ _ s hg_ov (fun r p s => ov_out (askJournalErase_outside r p s))
theorem requestImageRead_ov (t : Byte) (p : List Byte) (s : State) : (requestImageRead t p s).dict.overlay = s.dict.overlay :=
  takeRequest_base (fun s => s.dict.overlay) _ _ _ _ _ s hg_ov (fun r p s => ov_out (askImageRead_outside r p s))
theorem requestImageWrite_ov (t : Byte) (p : List Byte) (s : State) : (requestImageWrite t p s).dict.overlay = s.dict.overlay :=
  takeRequest_base (fun s => s.dict.overlay) _ _ _ _ _ s hg_ov (fun r p s => ov_out (askImageWrite_outside r p s))
theorem requestImageErase_ov (t : Byte) (p : List Byte) (s : State) : (requestImageErase t p s).dict.overlay = s.dict.overlay :=
  takeRequest_base (fun s => s.dict.overlay) _ _ _ _ _ s hg_ov (fun r p s => ov_out (askImageErase_outside r p s))
theorem requestConditionQuery_ov (t : Byte) (p : List Byte) (s : State) : (requestConditionQuery t p s).dict.overlay = s.dict.overlay :=
  takeRequest_base (fun s => s.dict.overlay) _ _ _ _ _ s hg_ov (fun r p s => ov_out (askConditionQuery_outside r p s))
theorem requestConditionClear_ov (t : Byte) (p : List Byte) (s : State) : (requestConditionClear t p s).dict.overlay = s.dict.overlay :=
  takeRequest_base (fun s => s.dict.overlay) _ _ _ _ _ s hg_ov (fun r p s => ov_out (askConditionClear_outside r p s))
theorem requestMark_ov (t : Byte) (p : List Byte) (s : State) : (requestMark t p s).dict.overlay = s.dict.overlay :=
  takeRequest_base (fun s => s.dict.overlay) _ _ _ _ _ s hg_ov (fun r p s => ov_out (askMark_outside r p s))
theorem requestSetUpLevel_ov (t : Byte) (p : List Byte) (s : State) : (requestSetUpLevel t p s).dict.overlay = s.dict.overlay :=
  takeRequest_base (fun s => s.dict.overlay) _ _ _ _ _ s hg_ov (fun r p s => ov_pk (askSetUpLevel_outside r p s))
theorem requestSetDebounceTime_ov (t : Byte) (p : List Byte) (s : State) : (requestSetDebounceTime t p s).dict.overlay = s.dict.overlay :=
  takeRequest_base (fun s => s.dict.overlay) _ _ _ _ _ s hg_ov (fun r p s => ov_par (askSetDebounceTime_outside r p s))
theorem requestSetStuckLimit_ov (t : Byte) (p : List Byte) (s : State) : (requestSetStuckLimit t p s).dict.overlay = s.dict.overlay :=
  takeRequest_base (fun s => s.dict.overlay) _ _ _ _ _ s hg_ov (fun r p s => ov_par (askSetStuckLimit_outside r p s))
theorem requestSetReleaseGuard_ov (t : Byte) (p : List Byte) (s : State) : (requestSetReleaseGuard t p s).dict.overlay = s.dict.overlay :=
  takeRequest_base (fun s => s.dict.overlay) _ _ _ _ _ s hg_ov (fun r p s => ov_par (askSetReleaseGuard_outside r p s))
theorem requestSetStrokeCopy_ov (t : Byte) (p : List Byte) (s : State) : (requestSetStrokeCopy t p s).dict.overlay = s.dict.overlay :=
  takeRequest_base (fun s => s.dict.overlay) _ _ _ _ _ s hg_ov (fun r p s => ov_par (askSetStrokeCopy_outside r p s))
theorem requestSetCorrectionDepth_ov (t : Byte) (p : List Byte) (s : State) : (requestSetCorrectionDepth t p s).dict.overlay = s.dict.overlay :=
  takeRequest_base (fun s => s.dict.overlay) _ _ _ _ _ s hg_ov (fun r p s => ov_par (askSetCorrectionDepth_outside r p s))
theorem requestSetResolvePause_ov (t : Byte) (p : List Byte) (s : State) : (requestSetResolvePause t p s).dict.overlay = s.dict.overlay :=
  takeRequest_base (fun s => s.dict.overlay) _ _ _ _ _ s hg_ov (fun r p s => ov_par (askSetResolvePause_outside r p s))
theorem requestSetTriggerLevel_ov (t : Byte) (p : List Byte) (s : State) : (requestSetTriggerLevel t p s).dict.overlay = s.dict.overlay :=
  takeRequest_base (fun s => s.dict.overlay) _ _ _ _ _ s hg_ov (fun r p s => ov_par (askSetTriggerLevel_outside r p s))
theorem requestSetGatherTime_ov (t : Byte) (p : List Byte) (s : State) : (requestSetGatherTime t p s).dict.overlay = s.dict.overlay :=
  takeRequest_base (fun s => s.dict.overlay) _ _ _ _ _ s hg_ov (fun r p s => ov_par (askSetGatherTime_outside r p s))
theorem requestSetJournalRegion_ov (t : Byte) (p : List Byte) (s : State) : (requestSetJournalRegion t p s).dict.overlay = s.dict.overlay :=
  takeRequest_base (fun s => s.dict.overlay) _ _ _ _ _ s hg_ov (fun r p s => ov_par (askSetJournalRegion_outside r p s))
theorem requestSetLowThreshold_ov (t : Byte) (p : List Byte) (s : State) : (requestSetLowThreshold t p s).dict.overlay = s.dict.overlay :=
  takeRequest_base (fun s => s.dict.overlay) _ _ _ _ _ s hg_ov (fun r p s => ov_par (askSetLowThreshold_outside r p s))
theorem requestSetMarkTableEntry_ov (t : Byte) (p : List Byte) (s : State) : (requestSetMarkTableEntry t p s).dict.overlay = s.dict.overlay :=
  takeRequest_base (fun s => s.dict.overlay) _ _ _ _ _ s hg_ov (fun r p s => ov_par (askSetMarkTableEntry_outside r p s))
theorem requestSetReportMask_ov (t : Byte) (p : List Byte) (s : State) : (requestSetReportMask t p s).dict.overlay = s.dict.overlay :=
  takeRequest_base (fun s => s.dict.overlay) _ _ _ _ _ s hg_ov (fun r p s => ov_par (askSetReportMask_outside r p s))
theorem requestSetParamUnknownIdentifier_ov (t : Byte) (p : List Byte) (s : State) : (requestSetParamUnknownIdentifier t p s).dict.overlay = s.dict.overlay :=
  takeRequest_base (fun s => s.dict.overlay) _ _ _ _ _ s hg_ov (fun r p s => ov_out (askSetParamUnknown_outside r p s))

theorem takeSetParam_env (t : Byte) (p : List Byte) (s : State) : (takeSetParam t p s).env = s.env := by
  unfold takeSetParam
  split
  · exact requestSetParamUnknownIdentifier_env _ _ _
  · split
    · exact requestSetUpLevel_env _ _ _
    · exact requestSetDebounceTime_env _ _ _
    · exact requestSetStuckLimit_env _ _ _
    · exact requestSetReleaseGuard_env _ _ _
    · exact requestSetStrokeCopy_env _ _ _
    · exact requestSetCorrectionDepth_env _ _ _
    · exact requestSetResolvePause_env _ _ _
    · exact requestSetTriggerLevel_env _ _ _
    · exact requestSetGatherTime_env _ _ _
    · exact requestSetJournalRegion_env _ _ _
    · exact requestSetLowThreshold_env _ _ _
    · exact requestSetMarkTableEntry_env _ _ _
    · exact requestSetReportMask_env _ _ _
    · exact requestSetParamUnknownIdentifier_env _ _ _

theorem takeBadKind_env (k t : Byte) (s : State) : (takeBadKind k t s).env = s.env := by
  simp only [takeBadKind]
  split
  · exact (hg_env _ _ (countLinkFault_base _)).trans rfl
  · rw [env_of_outside (answer_outside _ _ _ _)]; rfl

theorem takeFrameOf_env (k t : Byte) (p : List Byte) (s : State) : (takeFrameOf k t p s).env = s.env := by
  unfold takeFrameOf
  split
  · exact requestIdentify_env _ _ _
  · exact requestStatus_env _ _ _
  · exact takeSetParam_env _ _ _
  · exact requestGetParam_env _ _ _
  · exact requestChannelSet_env _ _ _
  · exact requestChannelQuery_env _ _ _
  · exact requestFaultClear_env _ _ _
  · exact requestLayerSet_env _ _ _
  · exact requestLayerQuery_env _ _ _
  · exact requestStoreSettings_env _ _ _
  · exact requestDefine_env _ _ _
  · exact requestUndefine_env _ _ _
  · exact requestOverlayClear_env _ _ _
  · exact requestOverlayQuery_env _ _ _
  · exact requestProfileSet_env _ _ _
  · exact requestPortSet_env _ _ _
  · exact requestPortQuery_env _ _ _
  · exact requestJobOpen_env _ _ _
  · exact requestJobClose_env _ _ _
  · exact requestJobAbort_env _ _ _
  · exact requestStrike_env _ _ _
  · exact requestJournalSeek_env _ _ _
  · exact requestJournalRead_env _ _ _
  · exact requestJournalErase_env _ _ _
  · exact requestImageRead_env _ _ _
  · exact requestImageWrite_env _ _ _
  · exact requestImageErase_env _ _ _
  · exact requestConditionQuery_env _ _ _
  · exact requestConditionClear_env _ _ _
  · exact requestMark_env _ _ _
  · exact takeBadKind_env _ _ _
/-! ## Events -/

theorem operationEnds_env (f : InFlight) (o : OpOutcome) (s : State) : (operationEnds f o s).env = s.env := by
  obtain ⟨p, k, h⟩ := operationEnds_sides f o s
  exact (base_eq (s := (s.mapParams fun _ => p).mapKeys fun _ => k) |>.1 h).1

theorem operationEnds_overlay (f : InFlight) (o : OpOutcome) (s : State) : (operationEnds f o s).dict.overlay = s.dict.overlay := by
  obtain ⟨p, k, h⟩ := operationEnds_sides f o s
  exact (base_eq (s := (s.mapParams fun _ => p).mapKeys fun _ => k) |>.1 h).2.2.2

theorem runBlocks_base (s : State) : (runBlocks s).base = s.base := base_of_outside (runBlocks_outside s)

theorem departHead_base (m : Message) (s : State) : (departHead m s).base = s.base := by
  simp only [departHead]
  rw [base_of_outside (testAttn_outside _)]
  split
  · rfl
  · rw [base_of_outside (noticeSpaceFreed_outside _)]; rfl

theorem operationTimesOut_base (f) (s : State) (h : ∀ g, s.port.items.head? ≠ some (.settingsLoad g)) : (operationTimesOut f s).base = s.base := by
  unfold operationTimesOut
  rw [operationEnds_base, countMemoryFault_base]
  intro g
  have : (countMemoryFault s).port.items = s.port.items := by rw [countMemoryFault_link]
  rw [this]; exact h g

theorem operationTimesOut_env (f) (s : State) : (operationTimesOut f s).env = s.env := by
  unfold operationTimesOut
  rw [operationEnds_env, (base_eq.1 (countMemoryFault_base s)).1]

theorem operationTimesOut_overlay (f) (s : State) : (operationTimesOut f s).dict.overlay = s.dict.overlay := by
  unfold operationTimesOut
  rw [operationEnds_overlay, (base_eq.1 (countMemoryFault_base s)).2.2.2]

end Sys2Proof.Machine
end

