-- ==== Sys2Proof/Laws/Memory.lean ====
section
/-! SUPPORT. The laws of the external memory: every operation keeps the canonical form, a read after a write
gives the value written, and an operation leaves every byte it does not name alone. -/

namespace Sys2Proof.Machine

/-! ## The canonical form -/

/-- Every address of a list lies above a bound. -/
def Mem.above (a : Nat) (m : List Host.Cell) : Prop := ∀ c ∈ m, a < c.1

theorem Mem.wf_cons (c : Host.Cell) (m : List Host.Cell) :
    Mem.wf (c :: m) = true ↔ c.2 ≠ Mem.unlisted ∧ Mem.above c.1 m ∧ Mem.wf m = true := by
  induction m generalizing c with
  | nil => simp [Mem.wf, Mem.above]
  | cons d rest ih =>
    have hd := ih d
    simp only [Mem.wf, Bool.and_eq_true, bne_iff_ne, decide_eq_true_eq]
    constructor
    · rintro ⟨⟨h1, h2⟩, h3⟩
      refine ⟨h1, ?_, h3⟩
      intro e he
      rcases List.mem_cons.1 he with rfl | he
      · exact h2
      · exact Nat.lt_trans h2 ((hd.1 h3).2.1 e he)
    · rintro ⟨h1, h2, h3⟩
      exact ⟨⟨h1, h2 d (List.mem_cons_self ..)⟩, h3⟩

theorem Mem.read1_of_above {a : Nat} {m : List Host.Cell} (h : ∀ c ∈ m, c.1 ≠ a) :
    Mem.read1 m a = Mem.unlisted := by
  have : m.find? (fun c => c.1 == a) = none := by
    simp only [List.find?_eq_none, beq_iff_eq]
    exact h
  simp [Mem.read1, this]

theorem Mem.read1_cons (c : Host.Cell) (m : List Host.Cell) (a : Nat) :
    Mem.read1 (c :: m) a = if c.1 = a then c.2 else Mem.read1 m a := by
  by_cases h : c.1 = a <;> simp [Mem.read1, h]

theorem Mem.write1_above {b a : Nat} {v : Byte} {m : List Host.Cell} (h : Mem.above b m) (hb : b < a) :
    Mem.above b (Mem.write1 m a v) := by
  induction m with
  | nil =>
    simp only [Mem.write1]
    split
    · exact h
    · intro c hc
      simp only [List.mem_singleton] at hc
      simpa [hc] using hb
  | cons c rest ih =>
    have hrest : Mem.above b rest := fun d hd => h d (List.mem_cons_of_mem _ hd)
    have hc : b < c.1 := h c (List.mem_cons_self ..)
    simp only [Mem.write1]
    split
    · split
      · exact h
      · intro d hd
        rcases List.mem_cons.1 hd with rfl | hd
        · exact hb
        · exact h d hd
    · split
      · split
        · exact hrest
        · intro d hd
          rcases List.mem_cons.1 hd with rfl | hd
          · exact hb
          · exact hrest d hd
      · intro d hd
        rcases List.mem_cons.1 hd with rfl | hd
        · exact hc
        · exact ih hrest d hd

/-- Storing a byte keeps the canonical form. -/
theorem Mem.write1_wf {m : List Host.Cell} (a : Nat) (v : Byte) (h : Mem.wf m = true) :
    Mem.wf (Mem.write1 m a v) = true := by
  induction m with
  | nil =>
    simp only [Mem.write1]
    split
    · exact h
    · simpa [Mem.wf] using ‹_›
  | cons c rest ih =>
    obtain ⟨h1, h2, h3⟩ := (Mem.wf_cons _ _).1 h
    simp only [Mem.write1]
    split
    · split
      · exact h
      · rename_i hlt hv
        refine (Mem.wf_cons _ _).2 ⟨hv, ?_, h⟩
        intro d hd
        rcases List.mem_cons.1 hd with rfl | hd
        · exact hlt
        · exact Nat.lt_trans hlt (h2 d hd)
    · split
      · split
        · exact h3
        · rename_i heq hv
          refine (Mem.wf_cons _ _).2 ⟨hv, ?_, h3⟩
          simpa [heq] using h2
      · rename_i hlt hne
        exact (Mem.wf_cons _ _).2 ⟨h1, Mem.write1_above h2 (by omega), ih h3⟩

/-- A read after a store: the value stored at its address, and every other byte as before. -/
theorem Mem.read1_write1 {m : List Host.Cell} (a : Nat) (v : Byte) (b : Nat) (h : Mem.wf m = true) :
    Mem.read1 (Mem.write1 m a v) b = if b = a then v else Mem.read1 m b := by
  induction m with
  | nil =>
    simp only [Mem.write1]
    by_cases hv : v = Mem.unlisted
    · rw [if_pos hv]
      split
      · exact hv.symm
      · rfl
    · rw [if_neg hv, Mem.read1_cons]
      by_cases hb : b = a
      · simp [hb]
      · rw [if_neg (fun e => hb e.symm), if_neg hb]
  | cons c rest ih =>
    obtain ⟨h1, h2, h3⟩ := (Mem.wf_cons _ _).1 h
    simp only [Mem.write1]
    by_cases hlt : a < c.1
    · have hnone : Mem.read1 (c :: rest) a = Mem.unlisted := by
        apply Mem.read1_of_above
        intro d hd
        rcases List.mem_cons.1 hd with rfl | hd
        · omega
        · have := h2 d hd; omega
      simp only [hlt, if_true]
      by_cases hv : v = Mem.unlisted
      · simp only [hv, if_true]
        split
        · rename_i hb; rw [hb, hnone]
        · rfl
      · simp only [hv, if_false, Mem.read1_cons (a, v)]
        simp only [eq_comm]
    · simp only [hlt, if_false]
      by_cases heq : a = c.1
      · simp only [heq, if_true]
        have hnone : Mem.read1 rest c.1 = Mem.unlisted := by
          apply Mem.read1_of_above
          intro d hd
          have := h2 d hd; omega
        by_cases hv : v = Mem.unlisted
        · simp only [hv, if_true, Mem.read1_cons]
          by_cases hb : b = c.1
          · simp [hb, hnone]
          · simp [hb, Ne.symm hb]
        · simp only [hv, if_false, Mem.read1_cons]
          by_cases hb : b = c.1
          · simp [hb]
          · simp [hb, Ne.symm hb]
      · simp only [heq, if_false, Mem.read1_cons, ih h3]
        by_cases hb : b = a
        · have : c.1 ≠ b := by omega
          simp [hb, show ¬ c.1 = a by omega]
        · simp [hb]

/-! ## Program (R159) -/

theorem Mem.program_wf (bytes : List Byte) {m : List Host.Cell} (a : Nat) (h : Mem.wf m = true) :
    Mem.wf (Mem.program m a bytes) = true := by
  induction bytes generalizing m a with
  | nil => exact h
  | cons v vs ih => exact ih _ (Mem.write1_wf _ _ h)

/-- A program leaves each byte it names its old value AND the value programmed, and every other byte as
before. -/
theorem Mem.read1_program (bytes : List Byte) {m : List Host.Cell} (a b : Nat) (h : Mem.wf m = true) :
    Mem.read1 (Mem.program m a bytes) b =
      if a ≤ b ∧ b < a + bytes.length then Mem.read1 m b &&& bytes.getD (b - a) 0 else Mem.read1 m b := by
  induction bytes generalizing m a with
  | nil =>
    rw [if_neg (by simp only [List.length_nil]; omega)]
    rfl
  | cons v vs ih =>
    simp only [Mem.program, ih _ (Mem.write1_wf _ _ h), Mem.read1_write1 _ _ _ h, List.length_cons]
    by_cases hb : b = a
    · subst hb
      simp [show ¬ (b + 1 ≤ b) by omega]
    · simp only [hb, if_false]
      by_cases hr : a + 1 ≤ b ∧ b < a + 1 + vs.length
      · have e : b - a = (b - (a + 1)) + 1 := by omega
        rw [if_pos hr, if_pos (by omega), e, List.getD_cons_succ]
      · rw [if_neg hr, if_neg (by omega)]

/-! ## Erase (R159) -/

theorem Mem.filter_above {a : Nat} {m : List Host.Cell} (p : Host.Cell → Bool) (h : Mem.above a m) :
    Mem.above a (m.filter p) := fun c hc => h c (List.mem_filter.1 hc).1

theorem Mem.erase_wf {m : List Host.Cell} (sector : Nat) (h : Mem.wf m = true) :
    Mem.wf (Mem.erase m sector) = true := by
  induction m with
  | nil => exact h
  | cons c rest ih =>
    obtain ⟨h1, h2, h3⟩ := (Mem.wf_cons _ _).1 h
    simp only [Mem.erase, List.filter_cons] at ih ⊢
    split
    · exact (Mem.wf_cons _ _).2 ⟨h1, Mem.filter_above _ h2, ih h3⟩
    · exact ih h3

/-- An erase leaves the sector's bytes FFh, and every other byte as before. -/
theorem Mem.read1_erase (m : List Host.Cell) (sector b : Nat) :
    Mem.read1 (Mem.erase m sector) b =
      if b / Config.sectorBytes = sector then Mem.unlisted else Mem.read1 m b := by
  induction m with
  | nil => simp [Mem.erase, Mem.read1]
  | cons c rest ih =>
    simp only [Mem.erase, List.filter_cons] at ih ⊢
    by_cases hc : c.1 / Config.sectorBytes = sector
    · simp only [hc, bne_self_eq_false, Bool.false_eq_true, if_false, ih, Mem.read1_cons]
      by_cases hb : b / Config.sectorBytes = sector
      · simp [hb]
      · have : c.1 ≠ b := by rintro rfl; exact hb hc
        simp [hb, this]
    · have hne : (c.1 / Config.sectorBytes != sector) = true := by simpa using hc
      simp only [hne, if_true, Mem.read1_cons, ih]
      by_cases hb : c.1 = b
      · subst hb; simp [hc]
      · simp [hb]

/-! ## Cut-off work (R159) -/

theorem Mem.cutProgram_wf (bytes : List Byte) {m : List Host.Cell} (a k : Nat) (h : Mem.wf m = true) :
    Mem.wf (Mem.cutProgram m a k bytes) = true := by
  induction bytes generalizing m a k with
  | nil => exact h
  | cons v vs ih => exact ih _ _ (Mem.write1_wf _ _ h)

/-- A cut-off program leaves every byte it does not name as before. -/
theorem Mem.read1_cutProgram (bytes : List Byte) {m : List Host.Cell} (a k b : Nat) (h : Mem.wf m = true)
    (hb : b < a ∨ a + bytes.length ≤ b) : Mem.read1 (Mem.cutProgram m a k bytes) b = Mem.read1 m b := by
  induction bytes generalizing m a k with
  | nil => rfl
  | cons v vs ih =>
    simp only [List.length_cons] at hb
    rw [Mem.cutProgram, ih _ _ (Mem.write1_wf _ _ h) (by omega), Mem.read1_write1 _ _ _ h,
      if_neg (by omega)]

/-- A cut-off program leaves each byte it names between its finished value and its old one: a bit it was not
clearing is unchanged. -/
theorem Mem.read1_cutProgram_named (bytes : List Byte) {m : List Host.Cell} (a k i : Nat)
    (h : Mem.wf m = true) (hi : i < bytes.length) :
    Mem.read1 (Mem.cutProgram m a k bytes) (a + i) =
      Mem.read1 m (a + i) &&& (bytes.getD i 0 ||| Config.freeByte (k + i)) := by
  induction bytes generalizing m a k i with
  | nil => simp at hi
  | cons v vs ih =>
    cases i with
    | zero =>
      rw [Mem.cutProgram, Mem.read1_cutProgram _ _ _ _ (Mem.write1_wf _ _ h) (by omega),
        Mem.read1_write1 _ _ _ h]
      simp
    | succ j =>
      have e : a + (j + 1) = a + 1 + j := by omega
      have e2 : k + (j + 1) = k + 1 + j := by omega
      rw [Mem.cutProgram, e, e2, ih _ _ _ (Mem.write1_wf _ _ h) (by simpa using hi),
        Mem.read1_write1 _ _ _ h, if_neg (by omega), List.getD_cons_succ]

theorem Mem.fillFree_wf (n : Nat) {m : List Host.Cell} (a k : Nat) (h : Mem.wf m = true) :
    Mem.wf (Mem.fillFree m a k n) = true := by
  induction n generalizing m a k with
  | zero => exact h
  | succ n ih => exact ih _ _ (Mem.write1_wf _ _ h)

/-- A cut-off erase leaves every byte outside its sector as before. -/
theorem Mem.read1_fillFree (n : Nat) {m : List Host.Cell} (a k b : Nat) (h : Mem.wf m = true)
    (hb : b < a ∨ a + n ≤ b) : Mem.read1 (Mem.fillFree m a k n) b = Mem.read1 m b := by
  induction n generalizing m a k with
  | zero => rfl
  | succ n ih =>
    rw [Mem.fillFree, ih _ _ (Mem.write1_wf _ _ h) (by omega), Mem.read1_write1 _ _ _ h,
      if_neg (by omega)]

/-! ## The device -/

theorem Device.finish_wf (d : Device) (op : MemOp) (h : Mem.wf d.mem = true) : Mem.wf (d.finish op).mem = true := by
  cases op with
  | read _ _ => exact h
  | program addr bytes => exact Mem.program_wf _ _ h
  | erase sector => exact Mem.erase_wf _ h

theorem Device.scramble_wf (d : Device) (op : MemOp) (h : Mem.wf d.mem = true) :
    Mem.wf (d.scramble op).mem = true := by
  cases op with
  | read _ _ => exact h
  | program addr bytes => exact Mem.cutProgram_wf _ _ _ h
  | erase sector => simp only [Device.scramble]; exact Mem.fillFree_wf _ _ _ h

theorem Device.cutOff_wf (d : Device) (op : MemOp) (h : Mem.wf d.mem = true) : Mem.wf (d.cutOff op).mem = true := by
  cases op with
  | read _ _ => exact h
  | program addr bytes => simp only [Device.cutOff]; exact Device.scramble_wf d (.program addr bytes) h
  | erase sector => simp only [Device.cutOff]; exact Device.scramble_wf d (.erase sector) h

theorem Device.becomeReady_wf (d : Device) (h : Mem.wf d.mem = true) : Mem.wf d.becomeReady.mem = true := by
  unfold Device.becomeReady
  split
  · exact h
  · exact Device.scramble_wf _ _ h

/-- A device with no cut-off work is unchanged when it answers ready. -/
theorem Device.becomeReady_idle (d : Device) (h : d.unfinished = none) : d.becomeReady = d := by
  simp [Device.becomeReady, h]

end Sys2Proof.Machine
end

