-- ==== Sys2Proof/Laws/Quiet.lean ====
section
/-! SUPPORT. When the blocks wait, and how their work within a step unrolls. -/

namespace Sys2Proof.Machine

/-- No block but the memory port has work: neither the engine, the journal nor the job controller. -/
def State.blocksWait (s : State) : Prop :=
  evaluationStep s = none ∧ takeStep s = none ∧ drainStep s = none ∧ journalStep s = none ∧ abortStep s = none

theorem quiet_iff (s : State) :
    s.quiet ↔ s.blocksWait ∧ headStep s = none ∧ grantStep s = none := by
  simp [State.quiet, internalStep, State.blocksWait, and_assoc]

theorem evaluationStep_none (s : State) :
    evaluationStep s = none ↔ s.engine.run = none ∨ s.dict.lookup ≠ none := by
  unfold evaluationStep
  cases s.engine.run <;> cases s.dict.lookup <;> simp

theorem takeStep_none (s : State) :
    takeStep s = none ↔ (s.engine.state = .waiting → s.engine.window.length < Config.windowStrokes →
      s.ring.recordAt s.ring.translationCursor = none) := by
  unfold takeStep
  split
  · simp_all
  · rename_i h
    simp only [not_and] at h
    simp only [true_iff]
    intro h1 h2
    exact absurd h2 (h h1)

theorem drainStep_none (s : State) :
    drainStep s = none ↔
      ¬ (s.engine.state = .waiting ∧ s.engine.closeMark = true ∧ s.ring.drainedTranslation = true) := by
  unfold drainStep
  split <;> simp_all

theorem abortStep_none (s : State) :
    abortStep s = none ↔ s.job.abortPending = none ∨ s.journal.aborting = true := by
  unfold abortStep
  cases s.job.abortPending <;> simp

/-- The head item waits for a scan to end. -/
def State.exportWaits (s : State) : Prop :=
  s.journal.scan ≠ none ∧ ∃ i, s.port.items.head? = some i ∧ i.isExport = true

theorem headStep_none (s : State) :
    headStep s = none ↔ s.port.headBegun = true ∨ s.port.items = [] ∨ s.exportWaits := by
  unfold headStep State.exportWaits
  cases h : s.port.headBegun <;> cases s.port.items <;> simp
  rename_i i _
  cases hi : i.isExport <;> cases hs : s.journal.scan <;> simp

theorem grantStep_none (s : State) : grantStep s = none ↔ s.port.state = .idle → s.port.chosen = none := by
  unfold grantStep
  cases s.port.state <;> simp <;> cases s.port.chosen <;> simp

theorem place_none (n : Nat) (w : Nat → State → State) (s : State) :
    place n w s = none ↔
      (if s.journal.needsSector then s.journal.nextSector = none else s.journal.current = none) := by
  unfold place
  split <;> simp

theorem runningWork_congr {s t : State} (hj : t.journal = s.journal) (hr : t.ring = s.ring)
    (hd : t.job.translationDrained = s.job.translationDrained) :
    runningWork t = none ↔ runningWork s = none := by
  have hc : closeDue t = closeDue s := by simp [closeDue, hj, hr, hd]
  unfold runningWork
  rw [hj, hr, hc]
  split
  · simp
  · split
    · simp
    · split
      · simp [place_none, hj]
      · split
        · simp [place_none, hj]
        · split
          · simp [place_none, hj]
          · split <;> simp [place_none, hj]

/-- The journal waits at a state that agrees on the journal, the ring and translation drained. -/
theorem journalStep_congr {s t : State} (hj : t.journal = s.journal) (hr : t.ring = s.ring)
    (hd : t.job.translationDrained = s.job.translationDrained) :
    journalStep t = none ↔ journalStep s = none := by
  have hc : closeDue t = closeDue s := by simp [closeDue, hj, hr, hd]
  unfold journalStep
  rw [hj, hr, hc]
  split
  · simp
  · split
    · simp
    · exact runningWork_congr hj hr hd
    · split
      · simp
      · split <;> simp

theorem journalStep_busy {s : State} (h : s.journal.op ≠ .waiting) : journalStep s = none := by
  simp [journalStep, h]

/-- What the engine's work depends on. -/
def Engine.work (e : Engine) : Option EvalRun × EngineState × List StrokeEntry × Bool :=
  (e.run, e.state, e.window, e.closeMark)

/-- The blocks wait at a state that agrees on what their work depends on. -/
theorem blocksWait_congr {s t : State} (he : t.engine.work = s.engine.work) (hl : t.dict.lookup = s.dict.lookup)
    (hj : t.journal = s.journal) (hr : t.ring = s.ring)
    (hd : t.job.translationDrained = s.job.translationDrained)
    (ha : t.job.abortPending = s.job.abortPending) : t.blocksWait ↔ s.blocksWait := by
  simp only [Engine.work, Prod.mk.injEq] at he
  obtain ⟨h1, h2, h3, h4⟩ := he
  unfold State.blocksWait
  rw [evaluationStep_none, evaluationStep_none, takeStep_none, takeStep_none, drainStep_none,
    drainStep_none, journalStep_congr hj hr hd, abortStep_none, abortStep_none, h1, h2, h3, h4, hl, hj, hr, ha]

/-- A state that agrees with a quiet one on what the blocks' work depends on is quiet. -/
theorem quiet_congr {s t : State} (he : t.engine.work = s.engine.work) (hl : t.dict.lookup = s.dict.lookup)
    (hj : t.journal = s.journal) (hr : t.ring = s.ring)
    (hd : t.job.translationDrained = s.job.translationDrained)
    (ha : t.job.abortPending = s.job.abortPending) (hp : t.port = s.port) :
    t.quiet ↔ s.quiet := by
  rw [quiet_iff, quiet_iff, blocksWait_congr he hl hj hr hd ha, headStep_none, headStep_none, grantStep_none,
    grantStep_none, State.exportWaits, State.exportWaits, hp, hj]

/-- With neither consumer free to go on, the ring and the close are no matter: such a state that agrees
with a quiet one on the lookup and evaluation in hand, the abort, the scan and the port is quiet. -/
theorem quiet_busy {s t : State} (hq : s.quiet) (hb : t.engine.state ≠ .waiting) (hop : t.journal.op ≠ .waiting)
    (hrun : t.engine.run = s.engine.run) (hl : t.dict.lookup = s.dict.lookup)
    (ha : t.job.abortPending = s.job.abortPending) (hg : t.journal.aborting = s.journal.aborting)
    (hs : t.journal.scan = s.journal.scan) (hp : t.port = s.port) : t.quiet := by
  rw [quiet_iff] at hq ⊢
  obtain ⟨⟨h1, -, -, -, h5⟩, h6, h7⟩ := hq
  rw [headStep_none, State.exportWaits, grantStep_none] at *
  rw [evaluationStep_none, abortStep_none] at *
  refine ⟨⟨?_, ?_, ?_, journalStep_busy hop, ?_⟩, ?_, ?_⟩
  · rw [evaluationStep_none, hrun, hl]; exact h1
  · rw [takeStep_none]; intro h; exact absurd h hb
  · rw [drainStep_none]; intro h; exact absurd h.1 hb
  · rw [abortStep_none, ha, hg]; exact h5
  · rw [hp, hs]; exact h6
  · rw [hp]; exact h7

/-! ## Unrolling -/

theorem cascade_quiet {s : State} (h : s.quiet) : ∀ n, cascade n s = s
  | 0 => rfl
  | n + 1 => by simp only [cascade]; rw [State.quiet] at h; rw [h]

/-- Quiet blocks do nothing. -/
theorem runBlocks_quiet {s : State} (h : s.quiet) : runBlocks s = s := cascade_quiet h _

/-- A state that agrees with a quiet one on what the blocks' work depends on stays as it is. -/
theorem runBlocks_same {s t : State} (hq : s.quiet) (he : t.engine.work = s.engine.work)
    (hl : t.dict.lookup = s.dict.lookup) (hj : t.journal = s.journal) (hr : t.ring = s.ring)
    (hd : t.job.translationDrained = s.job.translationDrained)
    (ha : t.job.abortPending = s.job.abortPending) (hp : t.port = s.port) : runBlocks t = t :=
  runBlocks_quiet ((quiet_congr he hl hj hr hd ha hp).2 hq)

theorem cascade_step {s t : State} (n : Nat) (h : internalStep s = some t) :
    cascade (n + 1) s = cascade n t := by simp only [cascade]; rw [h]

/-- With the other blocks waiting, the head item begins. -/
theorem internalStep_head {s : State} {i : LinkItem} {rest : List LinkItem} (hw : s.blocksWait)
    (hb : s.port.headBegun = false) (hi : s.port.items = i :: rest)
    (hx : i.isExport = false ∨ s.journal.scan = none) :
    internalStep s = some (beginItem i (s.mapPort fun p => { p with headBegun := true })) := by
  obtain ⟨h1, h2, h3, h4, h5⟩ := hw
  rcases hx with hx | hx <;> simp [internalStep, h1, h2, h3, h4, h5, headStep, hb, hi, hx]

/-- With every block waiting and the head item begun, the slot is granted. -/
theorem internalStep_grant {s : State} {r : Requester} {op : MemOp} (hw : s.blocksWait)
    (hb : s.port.headBegun = true ∨ s.port.items = [] ∨ s.exportWaits) (hs : s.port.state = .idle)
    (hc : s.port.chosen = some (r, op)) :
    internalStep s = some (s.mapPort fun p => p.grant r op s.now) := by
  obtain ⟨h1, h2, h3, h4, h5⟩ := hw
  have h6 := (headStep_none s).2 hb
  simp [internalStep, h1, h2, h3, h4, h5, h6, grantStep, hs, hc]

/-- An item that joins a queue already being served waits there. -/
theorem runBlocks_pushItem_waits {s : State} (i : LinkItem) (hq : s.quiet) (hi : s.itemInHand) :
    runBlocks (pushItem i s) = pushItem i s := by
  apply runBlocks_quiet
  obtain ⟨hw, -, hg⟩ := (quiet_iff s).1 hq
  refine (quiet_iff _).2 ⟨(blocksWait_congr (s := s) (t := pushItem i s) rfl rfl rfl rfl rfl rfl).2 hw, (headStep_none _).2 (.inl hi.2), ?_⟩
  rw [grantStep_none] at hg ⊢
  exact hg

/-- An item that reaches the head of the queue at a free port, and whose first work is one operation, has it
granted at once (R163). i' is the item as it stands once begun. -/
theorem runBlocks_pushItem_granted {s t : State} {i i' : LinkItem} {op : MemOp} (hq : s.quiet)
    (hf : s.portFree) (hx : i.isExport = false ∨ s.journal.scan = none)
    (hb : beginItem i (s.mapPort fun p => { p with items := [i], headBegun := true }) =
      requestLink op (t.mapPort fun p => { p with items := [i'], headBegun := true }))
    (he : t.engine.work = s.engine.work) (hl : t.dict.lookup = s.dict.lookup) (hj : t.journal = s.journal)
    (hr : t.ring = s.ring) (hd : t.job.translationDrained = s.job.translationDrained)
    (ha : t.job.abortPending = s.job.abortPending) (hp : t.port = s.port) (hn : t.now = s.now) :
    runBlocks (pushItem i s) = t.mapPort fun p => p.serving i' op s.now := by
  obtain ⟨hstate, -, hitems, hbegun, hj0, ht0, hl0⟩ := hf
  obtain ⟨hw, -, -⟩ := (quiet_iff s).1 hq
  have hw1 : (pushItem i s).blocksWait := (blocksWait_congr (s := s) (t := pushItem i s) rfl rfl rfl rfl rfl rfl).2 hw
  have hstep1 := internalStep_head (i := i) (rest := []) hw1 hbegun (by simp [pushItem, hitems]) hx
  have e1 : ((pushItem i s).mapPort fun p => { p with headBegun := true }) =
      s.mapPort fun p => { p with items := [i], headBegun := true } := by
    simp [pushItem, State.mapPort, hitems]
  rw [e1, hb] at hstep1
  let u := requestLink op (t.mapPort fun p => { p with items := [i'], headBegun := true })
  have hw2 : u.blocksWait := (blocksWait_congr (s := s) (t := u) he hl hj hr hd ha).2 hw
  have hstep2 : internalStep u = some (u.mapPort fun p => p.grant .link op u.now) := by
    apply internalStep_grant hw2 (.inl rfl)
    · simp [u, requestLink, hp, hstate]
    · simp [u, requestLink, MemPort.chosen, hp, hj0, ht0]
  have hq3 : (u.mapPort fun p => p.grant .link op u.now).quiet := by
    refine (quiet_iff _).2 ⟨(blocksWait_congr (s := u) (t := u.mapPort fun p => p.grant .link op u.now) rfl rfl rfl rfl rfl rfl).2 hw2, (headStep_none _).2 (.inl rfl), ?_⟩
    rw [grantStep_none]
    intro h
    simp [MemPort.grant] at h
  have : cascadeBound = 4094 + 1 + 1 := rfl
  rw [runBlocks, this, cascade_step _ hstep1, cascade_step _ hstep2, cascade_quiet hq3]
  simp [u, requestLink, MemPort.grant, MemPort.withdraw, MemPort.serving, State.mapPort, hn,
    Config.readyTimeout, hp, hl0]

end Sys2Proof.Machine
end

