-- ==== Sys2Proof/Tests/Slice0.lean ====
section
/-! SUPPORT. Tests. Each smoke test refuses one ill-formed command; each worked figure is the manual's own; each
test_witness theorem meets the hypotheses of one statement, clause by clause at the ends of their ranges. -/

namespace Sys2Proof.Tests

open Sys2Proof.Machine

/-! ## Helpers -/

/-- An outcome is a next state. -/
def isNext (o : Result) : Bool :=
  match o with
  | .next _ => true
  | .fault _ => false
  | .refused _ => false

theorem next_of_isNext {o : Result} (h : isNext o = true) : ∃ t, o = .next t := by
  match o, h with
  | .next t, _ => exact ⟨t, rfl⟩

/-- The state after a command (the state before it where it stops). -/
def after (c : Instr) (s : State) : State :=
  match exec c s with
  | .next t => t
  | .fault _ => s
  | .refused _ => s

/-- The same level on every line. -/
def allLevels (b : Byte) : Levels := Vector.replicate 23 b

/-- A part with its start-up behind it, no job, its port free, and a journal region of 8 BLANK sectors. -/
def ready : State := { State.reset with
  boot := .done
  job := { Job.reset with state := .noJob }
  port := { MemPort.reset 0 with state := .idle }
  journal := { Journal.reset 8 with blankCount := 8, nextSector := some 0 }
  params := { Params.reset with journalBase := 64, journalCount := 8 } }

/-- The part with a job OPEN, its current sector 0 with one record written, and nothing to do. -/
def opened : State := { ready with
  job := { ready.job with state := .opened, number := 7 }
  engine := { Engine.reset with state := .waiting }
  stream := { Stream.reset with durableSeen := some 0, modeSeen := .running }
  journal := { ready.journal with
    sectors := ⟨.inUse, some 1⟩ :: List.replicate 7 ⟨.blank, none⟩, highestSerial := 1, current := some 0
    appendPoint := 2, nextSector := some 1, blankCount := 7, mode := .running, durable := some 0
    jobNumber := 7 } }

/-- The part with a job OPEN and both consumers of the ring busy. -/
def busy : State := { opened with
  engine := { opened.engine with state := .stalled }
  journal := { opened.journal with op := .seeking } }

/-- A part with the job CLOSING. -/
def closing : State := { opened with job := { opened.job with state := .closing } }

/-- A part with an operation in flight for the host link, at time 100. -/
def flying (op : MemOp) (phase : Phase) (dropped : Bool) : State := { ready with
  now := 100
  port := { ready.port with state := .busy, inFlight := some ⟨op, .link, phase, 100, dropped⟩ } }

/-- A stroke record of a code. -/
def record (code : Code) : RecordBody := ⟨.stroke, code, false, false, 0, 0, none⟩

/-- A ring with the entries numbered from a number on, one consumer caught up. -/
def ringFrom (first count : Nat) : Ring :=
  ⟨(List.range count).map fun k => ⟨first + k, 0, record 1⟩, none, first + count, first + count, first, 0, 0⟩

/-! ## Well-formedness: one ill-formed command for each check -/

theorem test_payload_over_240_refused : (Instr.imageWrite 1 (List.replicate 241 0)).wellFormed = false := by decide +kernel
theorem test_value_over_239_refused : (Instr.setMarkTableEntry 1 (List.replicate 240 0)).wellFormed = false := by
  decide +kernel
theorem test_payload_240_taken : (Instr.imageWrite 1 (List.replicate 240 0)).wellFormed = true := by decide +kernel
theorem test_line_gained_port0_refused : (Instr.lineGained .p0 0).wellFormed = false := by decide
theorem test_line_lost_port0_refused : (Instr.lineLost .p0 0).wellFormed = false := by decide
theorem test_frame_completion_port0_refused : (Instr.frameCompletion .p0).wellFormed = false := by decide
theorem test_read_flips_over_256_refused : (Instr.readComplete (List.replicate 257 0)).wellFormed = false := by
  decide +kernel
theorem test_bad_kind_with_request_kind_refused :
    (Instr.badKindRequest 0x1E 1).wellFormed = false ∧ (Instr.badKindRequest 0x1F 1).wellFormed = true := by decide
theorem test_unknown_identifier_known_refused :
    (Instr.setParamUnknownIdentifier 1 [0x0D, 0]).wellFormed = false ∧
      (Instr.setParamUnknownIdentifier 1 [0x0E, 0]).wellFormed = true := by decide

/-! ## The manual's worked figures -/

/-- Section 3.4: KAT and KAT/TES with L = 12. -/
theorem test_hash_worked_figures :
    sequenceHash [524552] = 524553 ∧ sequenceHash [524552] % 4096 = 265 ∧
      sequenceHash [524552, 1050628] = 18360878 ∧ sequenceHash [524552, 1050628] % 4096 = 2606 ∧
      ({ Layer.reset with bucketBits := 12 } : Layer).slotOffset [524552] = 1076 ∧
      ({ Layer.reset with bucketBits := 12 } : Layer).slotOffset [524552, 1050628] = 10440 := by decide

/-- Section 3.4: the record of KAT, its check 4Ah, found by the walk; with another check byte it is corrupt. -/
theorem test_walk_reads_the_record_of_kat :
    let l : Layer := { Layer.reset with base := 1, count := 5, bucketBits := 12, imageLength := 16414 }
    let remainder : WalkStage := .remainder 16400 0 [0xFF, 0xFF, 0xFF, 0xFF, 1, 1, 3]
    walkStep l [524552] remainder [8, 1, 8, 0x63, 0x61, 0x74, 0x4A] = .found 1 [0x63, 0x61, 0x74] ∧
      walkStep l [524552] remainder [8, 1, 8, 0x63, 0x61, 0x74, 0x4B] = .fault := by decide

/-- "A Rolled Stroke": ch3, ch8 and ch19 make code 80108h, closed at 1095 with down time 1003. -/
theorem test_rolled_stroke_closes :
    let s : State := { busy with
      now := 1095
      former := { StrokeFormer.reset with
        state := .releasing, chord := 0x80108, downTime := 1003, guardDue := some 1095, jobClock := 1095 } }
    (after .releaseGuardExpiry s).ring.entries =
      [⟨1, 0, ⟨.stroke, 0x80108, false, false, 1003, 1095, none⟩⟩] := by decide

/-- "A Rolled Stroke": at 1055 ch19 joins in RELEASING: the roll stops the guard. -/
theorem test_roll_continues_the_chord :
    let held (i : Nat) : List ChannelState := (List.range 23).map fun k => if k = i then .down else .up
    let f : StrokeFormer := { StrokeFormer.reset with state := .releasing, chord := 0x108, guardDue := some 1060 }
    let t := f.takeResult (held 19) 12 1055
    t.state = .chord ∧ t.chord = 0x80108 ∧ t.guardDue = none := by decide

/-- "A Jammed Final S": the evaluation of 7003 brings the dwell to 2000, and the channel is STUCK. -/
theorem test_jammed_key_becomes_stuck :
    let c : Channel := { Channel.reset with state := .down, reading := .down, runLength := 2003, dwell := 1999 }
    let d := evaluateChannel Params.reset c 200
    d.state = .stuck ∧ d.latch = .stuck ∧ d.dwell = 0 := by decide

/-- "A Stalled Journal": X is held, Y is lost, and 101's commit moves X in as 165 with gap 0. -/
theorem test_stalled_journal :
    let full := ringFrom 101 64
    let x := (full.arrive (record 2)).1
    let y := x.arrive (record 3)
    let t := y.1.passJournal
    x.holding = some ⟨0, record 2⟩ ∧ y.2 = .lost ∧ y.1.gap = 1 ∧ t.journalCursor = 102 ∧
      t.entries.getLast? = some ⟨165, 0, record 2⟩ ∧ t.nextSeq = 166 ∧ t.holding = none := by decide

/-- "A Capital Carried Over an Untranslate": ". SKWR The" from 200 on. -/
theorem test_capital_is_carried :
    let cs := joinAll true ⟨false, false⟩ 200
      [⟨.entry, [⟨301, 0x40⟩], 0x29, [0x2E]⟩, ⟨.untranslate, [⟨302, 0x80⟩], 0, [0x53, 0x4B, 0x57, 0x52]⟩,
        ⟨.entry, [⟨303, 0x80000⟩], 0x01, [0x74, 0x68, 0x65]⟩]
    cs.map (·.text) = [[0x2E], [0x20, 0x53, 0x4B, 0x57, 0x52], [0x20, 0x54, 0x68, 0x65]] ∧
      cs.map (·.start) = [200, 201, 206] ∧
      cs.map (·.carryOut) = [⟨false, true⟩, ⟨false, true⟩, ⟨false, false⟩] := by decide

/-- "KAT/TES and the Asterisk": after the lookup of KAT/TES the edits keep the space that both texts share. -/
theorem test_common_front_of_the_tail : commonFront [0x20, 0x63, 0x61, 0x74] [0x20, 0x4B, 0x61] = 1 := by decide

/-- "Settling Under Journal Lag": " Kates" settles once record 58 is durable, and the next, OPEN, does not. -/
theorem test_settling_under_journal_lag :
    let kates : Chunk := ⟨.entry, [⟨57, 1⟩, ⟨58, 2⟩], none, 1, 120, [0x20, 0x4B, 0x61, 0x74, 0x65, 0x73],
      ⟨false, false⟩, ⟨false, false⟩, 4, false, false⟩
    let was : Chunk := { kates with strokes := [⟨59, 3⟩], start := 126, text := [0x20, 0x77], isOpen := true }
    let s (durable : Nat) : State := { opened with
      stream := { opened.stream with length := 143, settled := 120, durableSeen := some durable }
      engine := { opened.engine with chunks := [kates, was] } }
    (settleTest (s 57)).stream.settled = 120 ∧ (settleTest (s 58)).stream.settled = 126 := by decide

/-- "Pacing From Empty": the first expiry of a port with rate 120 and five bytes to send. -/
theorem test_pacing_from_empty :
    let s : State := { opened with
      stream := { opened.stream with length := 5, settled := 5, store := [1, 2, 3, 4, 5] }
      feeds := { opened.feeds with
        port1 := { opened.feeds.port1 with state := .following, linePresent := true } } }
    let t := (after .pacingExpiry s).feeds.port1
    t.credit = 20 ∧ t.displayed = 1 ∧ t.frame = some ⟨[0x02, 1, 1], .s38400⟩ := by decide

/-- "A Bench Screen Replugged": the first choice after the line is gained is a CLEAR to 4488. -/
theorem test_replugged_screen_clears :
    let s : State := { opened with
      stream := { opened.stream with length := 5000, settled := 5000 }
      feeds := { opened.feeds with
        port3 := { opened.feeds.port3 with
          state := .refreshing, linePresent := true, credit := 800, base := 2952, displayed := 2952
          valid := 2952, settledSent := 2952, frame := some ⟨[0x0C], .s38400⟩ } } }
    let t := (after (.frameCompletion .p3) s).feeds.port3
    t.credit = 700 ∧ t.base = 4488 ∧ t.displayed = 4488 ∧ t.valid = 4488 ∧ t.state = .following := by decide

/-- Section 9.1: a PROGRAM clears bits alone: F0h onto 0Fh leaves 00h. -/
theorem test_program_only_clears_bits :
    Mem.read1 (Mem.program (Mem.program [] 7 [0x0F]) 7 [0xF0]) 7 = 0 ∧
      Mem.program [] 7 [0xFF] = [] ∧ Mem.erase [(4095, 0), (4096, 0), (8191, 1), (8192, 2)] 1 =
        [(4095, 0), (8192, 2)] := by decide

/-! ## One step of some commands -/

theorem test_empty_queue_passes_a_millisecond :
    ∃ t, step { ready with pending := [] } = .next t ∧ t.now = 1 ∧ t.former.jobClock = 1 := ⟨_, rfl, rfl, rfl⟩
theorem test_no_word_spells_a_command : decodeTableWord 8 0xA6 = none := rfl
theorem test_identify_answered_in_booting :
    (after (.identify 9 []) State.reset).link.queue.map (·.bytes.take 6) = [[0xA6, 17, 0x01, 9, 0x00, 0x57]] := by
  decide
theorem test_request_busy_in_booting :
    (after (.strike 9 []) State.reset).link.queue.map (·.bytes.take 5) = [[0xA6, 1, 0x15, 9, 0x01]] := by decide
theorem test_bad_length_answered :
    (after (.strike 9 [0]) opened).link.queue.map (·.bytes.take 5) = [[0xA6, 1, 0x15, 9, 0x04]] := by decide
/-- R129: A6h on a line: the start bit, A6h = 10100110b least significant bit first, the stop bit. -/
theorem test_serial_character :
    serialCharacter 0xA6 = [false, false, true, true, false, false, true, false, true, true] := by decide
theorem test_up_level_raises_down_levels :
    (after (.setUpLevel 1 [231]) ready).keys.channels.all (·.downLevel == 247) = true := by decide
theorem test_strike_writes_to_the_journal :
    (after (.strike 1 []) opened).port.inFlight.map (·.requester) = some .journal := by decide
/-- The state after a command that comes n milliseconds later. -/
def late (n : Nat) (c : Instr) (s : State) : State := after c { s with now := s.now + n }

/-- A part whose device answers neither the start-up wait nor, one after another, the settings load's READs. -/
def deadAtWait : State := late 400 .startUpWaitTimeout { State.reset with params := ready.params }
def deadAtFirst : State := late 5 .readyTimeout deadAtWait
def deadAtSecond : State := late 5 .readyTimeout deadAtFirst
def deadAtThird : State := late 5 .readyTimeout deadAtSecond

/-- R168: each of the settings load's three READs that times out is counted, as the start-up wait was. -/
theorem test_dead_device_counts_every_read : deadAtThird.port.faultCount = 4 := by decide +kernel
theorem test_dead_device_ends_start_up : deadAtThird.job.state = .noJob := by decide +kernel
/-- R176: a region's SET_PARAM is BUSY while an open is pending, before its length is looked at. -/
theorem test_region_busy_before_its_length :
    let s : State := { ready with job := { ready.job with openPending := some ⟨1, 7, false, .noCause⟩ } }
    ((after (.setJournalRegion 1 []) s).link.queue.map (·.bytes.getD 4 0)) = [0x01] ∧
      ((after (.setJournalRegion 1 []) ready).link.queue.map (·.bytes.getD 4 0)) = [0x04] := by decide +kernel
/-- R157, R160: an export in hand when a change of region begins a scan is taken up again after the scan. -/
theorem test_region_change_restarts_a_seek :
    let s := after (.journalSeek 1 [0, 7, 0, 0, 0, 0]) { opened with
      job := { opened.job with state := .noJob }, journal := { opened.journal with mode := .idle } }
    let t := after (.setJournalRegion 2 [0x0F, 0xF8, 0, 8]) s
    s.port.headBegun = true ∧ t.port.headBegun = false ∧ t.port.items = [.journalSeek 1 7 0 0 0 false []] ∧
      t.port.inFlight.map (·.dropped) = some true := by decide +kernel
/-- R183: a settings load that brings another trigger level tests ATTN at once. -/
theorem test_settings_load_tests_attn (bytes : List Byte) (s : State) (valid : settingsValid bytes = true) :
    settingsLoaded (some bytes) s =
      startUpScan (portsTakeStates ((testAttn (applySettings bytes s)).setBoot .recoveryScan)) := by
  simp [settingsLoaded, valid]
/-- R155: a scan that fails sets the export cursor too. -/
theorem test_failed_scan_sets_the_cursor :
    let j := (scanFailed { ready with journal := { ready.journal with cursorSector := 7, cursorSlot := 9 } }).journal
    j.cursorSector = 0 ∧ j.cursorSlot = j.appendPoint := by decide +kernel
/-- R143: a header found committed at the abort has opened its sector. -/
theorem test_abort_commit_header_clears_failures :
    (abortCommitHeader { opened with journal := { opened.journal with sectorFailures := 2 } }).journal.sectorFailures =
      0 := by decide +kernel
theorem test_define_replaces :
    let c : Instr := .define 1 [0, 1, 1, 1, 0, 0, 5, 0x41]
    (after c (after c ready)).dict.overlay = [⟨[5], 1, [0x41]⟩] := by decide

/-! ## The statements' hypotheses can be met -/

theorem test_witness_StepRunsTheFrontCommand :
    { ready with pending := [.afrmEdge, .linkResync] }.pending = Instr.afrmEdge :: [.linkResync] ∧
      ready.pending = [] := by decide +kernel
theorem test_witness_EveryCommandAnswersNext :
    exec .readyAnswered (flying (.erase 4096) .readyWait false) = .next (flying (.erase 4096) .readyWait false) ∧
      (MemOp.erase 4096).inBounds = false := ⟨rfl, rfl⟩

/-- The last millisecond of an ERASE of sector 1, whose command waits. -/
def erasing : State := { flying (.erase 1) .busyWait true with
  device := { Device.reset with mem := [(4096, 1)] }, pending := [.eraseComplete] }

theorem test_witness_EveryStepKeepsTheMemoryCanonical : erasing.memoryOk ∧ ∃ t, step erasing = .next t :=
  ⟨by decide +kernel, next_of_isNext (by decide +kernel)⟩
theorem test_witness_OnlyDeviceCommandsChangeTheMemory :
    Instr.imageErase 1 [0, 5] ≠ .startUp ∧ Instr.imageErase 1 [0, 5] ≠ .startUpDeviceReady ∧
      Instr.imageErase 1 [0, 5] ≠ .readyAnswered ∧ Instr.imageErase 1 [0, 5] ≠ .programComplete ∧
      Instr.imageErase 1 [0, 5] ≠ .eraseComplete ∧ Instr.imageErase 1 [0, 5] ≠ .completionTimeout ∧
      ∃ t, exec (.imageErase 1 [0, 5]) ready = .next t :=
  ⟨nofun, nofun, nofun, nofun, nofun, nofun, next_of_isNext (by decide +kernel)⟩
theorem test_witness_OnlyTheirCommandsChangeTheTables :
    Instr.afrmEdge ≠ .startUp ∧ (∀ got, ready.port.items.head? ≠ some (.settingsLoad got)) ∧
      (∀ b, Instr.afrmEdge ≠ .frameByteReceived b) ∧ (∃ t, exec .afrmEdge ready = .next t) ∧
      (∀ l, Instr.afrmEdge ≠ .evaluation l) ∧ (∀ i l, Instr.afrmEdge ≠ .debounceHeld i l) ∧
      (∀ i l, Instr.afrmEdge ≠ .stuckLimitReached i l) ∧ (∀ g p, Instr.afrmEdge ≠ .channelSet g p) ∧
      (∀ g p, Instr.afrmEdge ≠ .faultClear g p) ∧ (∀ g v, Instr.afrmEdge ≠ .setUpLevel g v) ∧
      (∀ tag payload, requestOf .afrmEdge ≠ some (kindSetParam, tag, payload)) ∧
      (∀ g p, Instr.afrmEdge ≠ .define g p) ∧ (∀ g p, Instr.afrmEdge ≠ .undefine g p) ∧
      ∀ g p, Instr.afrmEdge ≠ .overlayClear g p :=
  ⟨nofun, nofun, nofun, ⟨_, rfl⟩, nofun, nofun, nofun, nofun, nofun, nofun, nofun, nofun, nofun, nofun⟩
theorem test_witness_EveryStepKeepsDownLevels :
    ready.levelsOk ∧ ∃ t, step { ready with pending := [.setUpLevel 1 [231]] } = .next t :=
  ⟨by decide +kernel, next_of_isNext (by decide +kernel)⟩
theorem test_witness_EveryStepKeepsTheOverlaySound :
    ready.overlayOk ∧ ∃ t, step { ready with pending := [.define 1 [0, 1, 1, 1, 0, 0, 5, 0x41]] } = .next t :=
  ⟨by decide +kernel, next_of_isNext (by decide +kernel)⟩
theorem test_witness_EveryStepKeepsAtMostEightOutstanding :
    { ready.link with outstanding := 8 }.outstanding ≤ 8 ∧
      ∃ t, step { ready with link := { ready.link with outstanding := 8 }, pending := [.status 1 []] } =
        .next t :=
  ⟨by decide +kernel, next_of_isNext (by decide +kernel)⟩

/-- Both ends of each line of R4, at up level 96 and down level 160. -/
theorem test_witness_EvaluationReadsEachChannel :
    let r (b : Byte) := (evaluateChannel Params.reset Channel.reset b).reading
    r 7 = .openCircuit ∧ r 8 = .up ∧ r 96 = .up ∧ r 97 = .up ∧ r 159 = .up ∧ r 160 = .down ∧ r 247 = .down ∧
      r 248 = .shortCircuit ∧
      (evaluateChannel Params.reset { Channel.reset with reading := .down } 97).reading = .down ∧
      (evaluateChannel Params.reset { Channel.reset with runLength := 65535, dwell := 65535 } 50).runLength =
        65535 := by decide +kernel
theorem test_witness_EvaluationDecisionsFollowTheTable :
    let e (c : Channel) (b : Byte) := evaluateChannel Params.reset c b
    (e { Channel.reset with state := .disabled } 200).state = .disabled ∧
      (e { Channel.reset with state := .openCircuit, latch := .openCircuit, reading := .up, runLength := 9 }
        50).state = .openCircuit ∧
      (e { Channel.reset with state := .shortCircuit, latch := .shortCircuit, reading := .up, runLength := 9 }
        50).state = .shortCircuit ∧
      (e { Channel.reset with state := .down, reading := .up, runLength := 3 } 50).state = .up ∧
      (e { Channel.reset with reading := .down, runLength := 3 } 160).state = .down ∧
      (e { Channel.reset with reading := .openCircuit, runLength := 3 } 7).latch = .openCircuit ∧
      (e { Channel.reset with reading := .shortCircuit, runLength := 3 } 248).latch = .shortCircuit ∧
      (e { Channel.reset with state := .down, reading := .up, runLength := 3, dwell := 1999 } 50).state = .up ∧
      (e { Channel.reset with state := .stuck, latch := .stuck, reading := .up, runLength := 3 } 50).latch =
        .stuck ∧
      (e { Channel.reset with state := .openCircuit, reading := .down, runLength := 3 } 160).state = .down := by
  decide +kernel
/-- A part whose channel 4 has one evaluation to go to DOWN, or to STUCK. -/
def nearly (c : Channel) : State := { ready with keys := ⟨(List.replicate 23 Channel.reset).set 4 c⟩ }

theorem test_witness_EvaluationTakesEveryChannel :
    (State.reset.quiet ∧ State.reset.boot.sensing = false) ∧
      (ready.quiet ∧ ready.boot.sensing = true ∧ ready.keys.channels.length = 23 ∧
        0 < ready.params.releaseGuard) ∧
      (let s : State := { nearly { Channel.reset with state := .down, reading := .up, runLength := 3 } with
          params := { ready.params with releaseGuard := 0 }
          former := { StrokeFormer.reset with state := .chord, chord := 0x10 } }
       s.quiet ∧ s.boot.sensing = true ∧ s.keys.channels.length = 23 ∧ s.params.releaseGuard = 0 ∧
        (after (.evaluation (allLevels 50)) s).former.state = .idle) := by decide +kernel

theorem test_witness_ChannelEventsAreTheirEvaluations :
    let down : Channel := { Channel.reset with reading := .down, runLength := 3 }
    let jam : Channel := { Channel.reset with state := .down, reading := .down, runLength := 9, dwell := 1999 }
    let all := allLevels 200
    ((nearly down).boot.sensing = true ∧ (nearly down).keys.channels.length = 23 ∧
      (nearly down).keys.channels[4]? = some down ∧ channelDecision ready.params down 200 = some (.down, none)) ∧
    ((nearly jam).keys.channels[4]? = some jam ∧
      channelDecision ready.params jam 200 = some (.stuck, some .stuck)) ∧
    channelDecision ready.params Channel.reset 50 = none ∧
    (after (.debounceHeld 4 all) (nearly down)).keys.channels[4]?.map (·.state) = some .down ∧
    (after (.stuckLimitReached 4 all) (nearly jam)).keys.channels[4]?.map (·.state) = some .stuck := by decide +kernel

/-- A chord whose guard is out, the rest of the part as given. -/
def releasing (s : State) : State :=
  { s with former := { s.former with state := .releasing, chord := 0x108, guardDue := some s.now } }

theorem test_witness_ReleaseGuardClosesTheStroke :
    ready.former.state ≠ .releasing ∧
    ((releasing busy).former.guardDue = some 0 ∧ (releasing busy).quiet ∧
      (releasing busy).job.state = .opened ∧ (releasing busy).consumersBusy ∧
      (releasing busy).ring.holding = none ∧ (releasing busy).ring.nextSeq < 0xFFFFFFFF) ∧
    ((releasing State.reset).quiet ∧ (releasing State.reset).job.state = .booting) ∧
    ((releasing ready).quiet ∧ (releasing ready).job.state = .noJob ∧
      (releasing ready).params.strokeCopy = false) ∧
    ((releasing closing).quiet ∧ (releasing closing).job.state = .closing) ∧
    let copy : State := { ready with params := { ready.params with strokeCopy := true } }
    ((releasing copy).quiet ∧ (releasing copy).params.strokeCopy = true ∧
      (releasing copy).link.notices.length < 40) := by decide +kernel
/-- A stroke and a correction that a WAITING engine takes: the OPEN chunk reaches the depth of 4 and closes. -/
theorem test_witness_ReleaseGuardClosesTheStroke_taken :
    let c : Chunk := ⟨.entry, [⟨0, 5⟩], none, 1, 0, [0x41], ⟨false, false⟩, ⟨false, false⟩, 3, true, false⟩
    let w (n : Nat) : List StrokeEntry := List.replicate n ⟨0, 3⟩
    let s (n : Nat) : State := releasing { opened with
      engine := { opened.engine with chunks := [{ c with afterCount := 9, isOpen := false }, c], window := w n }
      stream := { opened.stream with length := 2, durableSeen := none } }
    let star : State := { s 23 with former := { (s 23).former with chord := 0x400 } }
    ((s 23).quiet ∧ (s 23).job.state = .opened ∧ (s 23).engine.state = .waiting ∧
      (s 23).engine.window.length < 24 ∧ (s 23).ring.entries = [] ∧ (s 23).ring.holding = none ∧
      (s 23).ring.nextSeq < 0xFFFFFFFF ∧ (s 23).ring.translationCursor = (s 23).ring.nextSeq ∧
      (s 23).former.chord ≠ 0x400 ∧ star.quiet ∧ star.former.chord = 0x400) ∧
    ((after .releaseGuardExpiry (s 0)).engine.chunks.take 2).map (fun c => (c.afterCount, c.isOpen)) =
      [(9, false), (4, false)] := by decide +kernel
theorem test_witness_ResultsFormChords :
    let one : List ChannelState := .down :: List.replicate 22 .up
    let f := StrokeFormer.reset
    downSet one &&& ~~~downSet f.result = 1 ∧ downSet f.result = 0 ∧
      (f.takeResult one 12 5).state = .chord ∧
      ({ f with state := .chord, chord := 1 }.takeResult f.result 12 5).guardDue = some 17 ∧
      ({ f with state := .releasing, chord := 2, guardDue := some 9 }.takeResult one 12 5).chord = 3 := by decide +kernel
theorem test_witness_ChannelSetStoresLevelAndEnable :
    ready.serves 1 ∧ 22 < (23 : Byte).toNat ∧ 1 < (2 : Byte).toNat ∧ (22 : Byte).toNat ≤ 22 ∧
      (1 : Byte).toNat ≤ 1 ∧
      ((after (.channelSet 1 [22, 0, 255]) ready).keys.channels[22]?.map fun c => (c.downLevel, c.state)) =
        some (247, .disabled) ∧
      ((after (.channelSet 1 [0, 1, 0]) ready).keys.channels[0]?.map (·.downLevel)) = some 112 := by decide +kernel
theorem test_witness_FaultClearTestsEachCause :
    ready.serves 1 ∧ [0x80, 0, 0, 0].length = 4 ∧ 8388608 ≤ beValue [0x80, 0, 0] ∧ 32 ≤ beValue [0x20] ∧
      beValue [0x7F, 0xFF, 0xFF] < 8388608 ∧ beValue [0x1F] < 32 ∧
      (nearly { Channel.reset with state := .stuck, latch := .stuck }).serves 1 ∧
      beValue [0x7F, 0xFF, 0xFF] = 8388607 ∧
      let kept (c : Channel) : State := after (.faultClear 1 [0, 0, 0x10, 0]) (nearly c)
      (kept { Channel.reset with reading := .openCircuit }).link.conditionsPending = 0x08 ∧
        (kept { Channel.reset with state := .stuck }).link.conditionsPending = 0x08 ∧
        (kept { Channel.reset with state := .disabled, reading := .openCircuit }).link.conditionsPending = 0 := by
  decide +kernel
theorem test_witness_ChannelQueryReportsTheTable :
    ready.serves 1 ∧ closing.serves 0xFF ∧
      ((after (.channelQuery 1 []) ready).link.queue.map (·.bytes.length)) = [123] := by decide +kernel
theorem test_witness_RingArrivalsAndFreeing :
    ((ringFrom 1 63).entries.length < 64 ∧ (ringFrom 1 63).holding = none ∧
      (ringFrom 1 63).nextSeq < 0xFFFFFFFF) ∧
    (64 ≤ (ringFrom 1 64).entries.length ∧ (ringFrom 1 64).holding = none) ∧
    ((ringFrom 1 64).arrive (record 1)).1.holding ≠ none ∧
    (0xFFFFFFFF ≤ { Ring.reset with nextSeq := 0xFFFFFFFF }.nextSeq) ∧
    (ringFrom 1 4).entries.Pairwise (fun a b => a.seq < b.seq) ∧
    ((ringFrom 1 64).entries.filter fun e =>
      (ringFrom 1 64).translationCursor ≤ e.seq || (ringFrom 1 64).journalCursor + 1 ≤ e.seq).length < 64 ∧
    64 ≤ ((ringFrom 1 64).entries.filter fun e =>
      (ringFrom 1 64).translationCursor ≤ e.seq || (ringFrom 1 64).journalCursor ≤ e.seq).length := by decide +kernel
theorem test_witness_StrikeAndMarkArrive :
    let full : State := { busy with ring := { ringFrom 1 64 with holding := some ⟨0, record 1⟩ } }
    ready.serves 1 ∧ ready.job.state ≠ .opened ∧
    (busy.serves 1 ∧ busy.job.state = .opened ∧ 15 < (16 : Byte).toNat ∧ (15 : Byte).toNat ≤ 15 ∧ busy.quiet ∧
      busy.consumersBusy ∧ busy.ring.holding = none ∧ busy.ring.nextSeq < 0xFFFFFFFF) ∧
    (full.serves 1 ∧ full.job.state = .opened ∧ full.quiet ∧ full.consumersBusy ∧ full.ring.holding ≠ none) ∧
    (opened.serves 1 ∧ opened.job.state = .opened ∧ opened.quiet ∧ opened.engine.state = .waiting ∧
      opened.engine.window.length < 24 ∧ opened.ring.entries = [] ∧ opened.ring.holding = none ∧
      opened.ring.translationCursor = opened.ring.nextSeq) := by
  decide +kernel

/-- An OPEN chunk of one stroke and three letters from 5 on. -/
def cat : Chunk :=
  ⟨.entry, [⟨1, 0x80⟩], none, 1, 5, [0x63, 0x61, 0x74], ⟨false, false⟩, ⟨false, false⟩, 0, true, false⟩

/-- A job OPEN with every profile on hold, a chunk and a window. -/
def translated (chunks : List Chunk) (window : List StrokeEntry) : State := { opened with
  feeds := { opened.feeds with
    profileA := { opened.feeds.profileA with hold := true }
    profileB := { opened.feeds.profileB with hold := true }
    profileC := { opened.feeds.profileC with hold := true } }
  stream := { opened.stream with length := 8, settled := 5 }
  engine := { opened.engine with chunks := chunks, window := window } }

/-- The clauses of the correction: a window, an OPEN chunk with and without text, a MARK chunk, and no chunk, with
notice space and without. -/
theorem test_witness_StrikeAndMarkArrive_corrections :
    let taken : RingRecord := ⟨2, 0, ⟨.strike, 0, true, false, 0, 0, none⟩⟩
    (translated [] [⟨4, 1⟩]).engine.window = [] ++ [⟨4, 1⟩] ∧
    (let s := translated [cat] [];
      s.engine.window = [] ∧ s.engine.chunks = [] ++ [cat] ∧ cat.isOpen = true ∧ cat.kind ≠ .mark ∧
        cat.strokes = [] ++ [⟨1, 0x80⟩] ∧ cat.markSource = none ∧ cat.text ≠ [] ∧ s.feeds.profileA.hold = true ∧
        s.feeds.profileB.hold = true ∧ s.feeds.profileC.hold = true ∧
        (takeCorrection taken s).stream.length = 5 ∧ (takeCorrection taken s).journal.amendments = [1]) ∧
    { cat with text := [] }.text = [] ∧
    (let s := translated [{ cat with kind := .mark, isOpen := false }] [];
      s.link.notices.length < 40 ∧
        (takeCorrection taken s).link.queue = [⟨false, frameBytes 0x43 0 [0, 0, 0, 2, 0x02, 0x03], 0, 0⟩]) ∧
    (let s : State := { translated [] [] with
        link := { opened.link with queue := List.replicate 40 ⟨false, [0xA6], 0, 0⟩ } };
      s.engine.window = [] ∧ s.engine.chunks.getLast? = none ∧ 40 ≤ s.link.notices.length) := by decide +kernel
theorem test_witness_LayerSetChecksAndApplies :
    let pending : State := { ready with job := { ready.job with openPending := some ⟨1, 7, false, .noCause⟩ } }
    (pending.serves 1 ∧ pending.job.openPending ≠ none) ∧
    (opened.serves 1 ∧ opened.job.openPending = none ∧ opened.job.state = .opened) ∧
    (ready.serves 1 ∧ ready.job.openPending = none ∧ ready.job.state = .noJob ∧ ready.quiet ∧ ready.portFree ∧
      layerOf 3 = some .l3 ∧ 0 < 64 ∧ ¬ 4096 < 72 + 4024 ∧ ¬ (72 < 64 + 8 ∧ 64 < 72 + 4024)) ∧
    (after (.layerSet 1 [3, 0, 72, 0x0F, 0xB8, 1]) ready).port.inFlight.map (·.op) =
      some (.read (72 * 4096) 16) ∧
    ((after (.layerSet 1 [3, 0, 71, 0, 1, 1]) ready).link.queue.map (·.bytes.getD 4 0)) = [0x08] ∧
    ((after (.layerSet 1 [4, 0, 72, 0, 1, 1]) ready).link.queue.map (·.bytes.getD 4 0)) = [0x05] := by decide +kernel
/-- The header's bytes: an image with 8 bucket bits, 5 entries and 1040 bytes. -/
def header : List Byte := [0x5A, 0x44, 0x01, 8, 0, 0, 0, 5, 0, 0, 4, 0x10, 0, 0, 0, 0]

/-- A part whose last transfer is that of an item, with bytes in the memory from an address on. -/
def readingAt (i : LinkItem) (addr n : Nat) (bytes : List Byte) (phase : Phase) : State :=
  { flying (.read addr n) phase false with
    device := { Device.reset with mem := Mem.program [] addr bytes }
    port := { (flying (.read addr n) phase false).port with items := [i], headBegun := true } }

theorem test_witness_LayerSetChecksAndApplies_header :
    let item : LinkItem := .layerSet 1 .l2 2 1 true
    let s := readingAt item 8192 16 header .transfer
    let late := readingAt item 8192 16 header .readyWait
    (s.port.inFlight = some ⟨.read 8192 16, .link, .transfer, 100, false⟩ ∧ s.port.items = [item] ∧
      s.port.headBegun = true ∧ s.port.chosen = none ∧ s.quiet) ∧
    (late.port.inFlight = some ⟨.read 8192 16, .link, .readyWait, 100, false⟩ ∧ 100 ≤ late.now ∧ late.quiet) ∧
    (after (.readComplete []) s).dict.layer2.valid = true ∧
    (after (.readComplete [1]) s).dict.layer2.valid = false ∧
    (after .readyTimeout late).dict.layer2.checkPending = true := by decide +kernel
theorem test_witness_LayerQueryReportsTheLayers :
    (State.reset.takes 1 ∧ State.reset.job.state = .booting) ∧ (ready.takes 1 ∧ ready.job.state ≠ .booting) := by
  decide +kernel
theorem test_witness_OverlayRequestsChangeTheOverlay :
    let codes : List Code := List.replicate 8 0x7FFFFF
    let full : State := { ready with
      dict := { ready.dict with overlay := (List.range 512).map fun i => ⟨[BitVec.ofNat 23 (i + 1)], 4, []⟩ } }
    (∀ c ∈ codes, c ≠ 0) ∧ (∀ b ∈ List.replicate 48 (0x7E : Byte), textByte b = true) ∧
    (ready.serves 1 ∧ 1 ≤ codes.length ∧ codes.length ≤ 8 ∧ (List.replicate 48 (0x7E : Byte)).length ≤ 48 ∧
      (0x79 : Byte) &&& 0x82 = 0 ∧ (0x79 : Byte) &&& 0x05 = 0x01 ∧ (0x04 : Byte) &&& 0x05 = 0x04 ∧
      (ready.dict.overlay.any fun x => x.sequence == codes) = false ∧ ready.dict.overlay.length < 512 ∧
      ready.quiet ∧ ready.engine.state = .idle) ∧
    (full.serves 1 ∧ 512 ≤ full.dict.overlay.length) :=
  ⟨fun c h => by rw [List.eq_of_mem_replicate h]; decide, fun b h => by rw [List.eq_of_mem_replicate h]; decide,
    by decide +kernel, by decide +kernel⟩
/-- The refusals: lengths a byte off and none at all, and each value just outside what is allowed. -/
theorem test_witness_OverlayRequestsChangeTheOverlay_refusals :
    let code (c : Instr) : List Byte := (after c ready).link.queue.map (·.bytes.getD 4 9)
    (ready.serves 1 ∧ [(0 : Byte), 1, 1, 0, 0, 0, 5].length = 4 + 3 * 1 + 0 ∧ [(1 : Byte), 0, 0, 5].length = 1 + 3 * 1) ∧
    code (.define 1 []) = [4] ∧ code (.define 1 [0, 1, 1, 1, 0, 0, 5]) = [4] ∧
    code (.define 1 [0, 1, 0, 0]) = [5] ∧ code (.define 1 [0, 1, 1, 0, 0, 0, 0]) = [5] ∧
    code (.define 1 [0, 1, 1, 0, 0x7F, 0xFF, 0xFF]) = [0] ∧ code (.define 1 [0, 1, 1, 0, 0x80, 0, 0]) = [5] ∧
    code (.define 1 [0, 1, 1, 1, 0, 0, 5, 0x1F]) = [5] ∧ code (.define 1 [0, 5, 1, 0, 0, 0, 5]) = [5] ∧
    code (.define 1 [0, 4, 1, 1, 0, 0, 5, 0x41]) = [5] ∧ code (.undefine 1 [1, 0, 0]) = [4] ∧
    code (.undefine 1 [1, 0, 0, 0]) = [5] ∧ code (.overlayQuery 1 []) = [4] ∧
    code (.overlayQuery 1 (9 :: List.replicate 27 1)) = [5] := by decide +kernel
/-- What a DEFINE does to an engine in each state, and a reach-back: the room holds both OPEN chunks, the newest
alone, or, in a full window, none. -/
theorem test_witness_OverlayRequestsChangeTheOverlay_engine :
    let c (seq : Nat) (isOpen : Bool) : Chunk :=
      ⟨.entry, [⟨seq, 5⟩], none, 1, seq, [0x41], ⟨false, false⟩, ⟨false, false⟩, 0, isOpen, false⟩
    let s (state : EngineState) (window length : Nat) : State := { opened with
      stream := { opened.stream with length := length }
      feeds := { opened.feeds with
        profileA := { Profile.defaultA with hold := true }, profileB := { Profile.defaultB with hold := true }
        profileC := { Profile.defaultC with hold := true } }
      engine := { opened.engine with
        state := state, chunks := [c 1 false, c 2 true, c 3 true]
        window := (List.range window).map fun k => ⟨k + 4, 6⟩ } }
    let define (s : State) : Engine := (changeOverlay [⟨[9], 1, [0x42]⟩] true s).engine
    ((s .waiting 22 4).serves 1 ∧ (s .waiting 22 4).engine.chunks = [c 1 false] ++ [c 2 true, c 3 true] ∧
      [c 1 false].getLast? = some (c 1 false) ∧ (c 1 false).isOpen = false ∧
      ([c 2 true, c 3 true].flatMap (·.strokes)).length ≤ 24 - (s .waiting 22 4).engine.window.length) ∧
    ((s .stalled 23 4).engine.chunks = [c 1 false, c 2 true] ++ [c 3 true] ∧
      [c 1 false, c 2 true].getLast? = some (c 2 true) ∧
      24 - (s .stalled 23 4).engine.window.length < ([c 2 true, c 3 true].flatMap (·.strokes)).length) ∧
    ((s .stalled 24 4).engine.chunks = [c 1 false, c 2 true, c 3 true] ++ [] ∧
      24 - (s .stalled 24 4).engine.window.length < ([c 3 true].flatMap (·.strokes)).length) ∧
    ((define (s .waiting 22 4)).chunks = [c 1 false] ∧ (define (s .waiting 22 4)).window.length = 24 ∧
      (define (s .stalled 23 2)).chunks = [c 1 false, c 2 true] ∧ (define (s .stalled 24 4)).chunks.length = 3 ∧
      (define (s .evaluating 0 4)).reachBackPending = true) := by decide +kernel
theorem test_witness_OverlayQueryReportsTheEntry :
    let s : State := { ready with dict := { ready.dict with overlay := [⟨[5], 1, [0x41]⟩, ⟨[5, 6], 4, []⟩] } }
    (∀ c ∈ ([5] : List Code), c ≠ 0) ∧
    s.serves 1 ∧ s.overlayOk ∧ (⟨[5], 1, [0x41]⟩ : OverlayEntry) ∈ s.dict.overlay ∧ ([5] : List Code).length ≤ 8 ∧
      (∀ e ∈ s.dict.overlay, e.sequence ≠ [6]) ∧
      ((after (.overlayQuery 1 [1, 0, 0, 5]) s).link.queue.map fun m => (m.bytes.drop 4).take 7) =
        [[0, 1, 1, 0, 2, 1, 0x41]] :=
  ⟨fun c h => by rw [List.mem_singleton.mp h]; decide, by decide +kernel⟩
theorem test_witness_TimerForcesResolution :
    let waiting : State := { opened with engine := { opened.engine with timerDue := some 0 } }
    let stalled : State := { busy with engine := { busy.engine with timerDue := some 0 } }
    (∀ due, ready.engine.timerDue = some due → ready.now < due) ∧
      (waiting.engine.timerDue = some 0 ∧ 0 ≤ waiting.now ∧ waiting.engine.state = .waiting) ∧
      (stalled.engine.timerDue = some 0 ∧ stalled.engine.state = .stalled ∧ stalled.quiet) :=
  ⟨nofun, by decide +kernel, by decide +kernel⟩
theorem test_witness_JoinedChunksFollowOneAnother :
    let w : StrokeEntry := ⟨3, 0x80⟩
    let e : OverlayEntry := ⟨[0x80], 0x11, [0x63, 0x61, 0x74]⟩
    let s : State := { opened with
      dict := { opened.dict with overlay := [e] }
      engine := { opened.engine with window := [w], timerDue := some 0, tail := [0x63, 0x61, 0x74] } }
    (joinAll true ⟨false, false⟩ 0 [⟨.entry, [w], 0x20, []⟩]).length = 1 ∧
    (s.quiet ∧ s.overlayOk ∧ s.engine.state = .waiting ∧ s.engine.timerDue = some 0 ∧ 0 ≤ s.now ∧
      s.engine.window = [w] ∧ s.engine.chunks = [] ∧ s.engine.cache = [] ∧ s.engine.heldMark = none ∧
      s.engine.closeMark = false ∧ s.engine.reevaluationPending = false ∧ s.dict.lookup = none ∧
      0 < s.params.depth ∧ e ∈ s.dict.overlay ∧ e.sequence = [w.code] ∧ e.flags &&& 0x05 = 0x01) ∧
    (∀ i, (s.dict.layer i).enable = false) ∧
    (after .forcedResolutionExpiry s).engine.chunks.map (·.text) = [[0x63, 0x61, 0x74]] := by
  refine ⟨by decide, by decide +kernel, fun i => by cases i <;> rfl, by decide +kernel⟩
theorem test_witness_ChunksSettleInOrder :
    let s := translated [{ cat with isOpen := false }, cat] []
    let t : State := { s with stream := { s.stream with modeSeen := .passing } }
    t.engine.state ≠ .stalled ∧ t.feeds.profileA.hold = true ∧ t.feeds.profileB.hold = true ∧
      t.feeds.profileC.hold = true ∧ (settleTest t).engine.chunks = [cat] ∧
      (settleTest t).stream.unrecordedPoint = some 5 := by decide +kernel
theorem test_witness_CorrectionDepthClosesChunks :
    let c : Chunk := ⟨.entry, [⟨1, 1⟩], none, 1, 0, [0x41], ⟨false, false⟩, ⟨false, false⟩, 15, true, false⟩
    let s : State := { busy with engine := { busy.engine with chunks := [c] } }
    s.serves 1 ∧ s.quiet ∧ (∀ c ∈ s.engine.chunks, c.isOpen = true → c.afterCount < 16) ∧
      (closeReached 15 s.engine.chunks).map (·.isOpen) = [false] ∧
      (after (.setCorrectionDepth 1 [15]) s).engine.chunks.map (·.isOpen) = [false] ∧
      (after (.setCorrectionDepth 1 [16]) s).engine.chunks.map (·.isOpen) = [true] := by decide +kernel

/-- A part whose port 1 is at its 199th sample. -/
def sampling (reading present : Bool) (state : PortState) : State := { ready with
  feeds := { ready.feeds with
    profileA := { ready.feeds.profileA with hold := true }
    port1 := { ready.feeds.port1 with
      senseReading := reading, senseRun := 199, linePresent := present, state := state } } }

theorem test_witness_PresenceSamplesQualify :
    (ready.boot.sensing = true ∧ ∀ i ∈ viewerPorts, lineLevel 0 i = (ready.feeds.port i).linePresent) ∧
    (let p := (sampling false true .following).feeds.port1;
      lineLevel 0 .p1 = false ∧ p.senseReading = false ∧ p.senseRun = 199 ∧ p.linePresent = true ∧
        p.state = .following) ∧
    (let s := sampling true false .detached;
      lineLevel 1 .p1 = true ∧ s.feeds.port1.senseReading = true ∧ s.feeds.port1.senseRun = 199 ∧
        s.feeds.port1.linePresent = false ∧ s.feeds.port1.state = .detached ∧
        (s.feeds.profile s.feeds.port1.profile).hold = true) := by decide +kernel

/-- A part with all three profiles on hold. -/
def held : State := { ready with
  feeds := { ready.feeds with
    profileA := { ready.feeds.profileA with hold := true }
    profileB := { ready.feeds.profileB with hold := true }
    profileC := { ready.feeds.profileC with hold := true } } }

theorem test_witness_PacingGathersCredit :
    held.feeds.profileA.hold = true ∧ held.feeds.profileB.hold = true ∧ held.feeds.profileC.hold = true := by decide +kernel

/-- A part whose port 1 has a frame in flight and credit for one more. -/
def framing (state : PortState) (hold : Bool) : State := { opened with
  stream := { opened.stream with length := 5, settled := 5, store := [1, 2, 3, 4, 5] }
  feeds := { opened.feeds with
    profileA := { opened.feeds.profileA with hold := hold }
    port1 := { opened.feeds.port1 with
      state := state, linePresent := true, credit := 100, frame := some ⟨[0x0C], .s38400⟩ } } }

theorem test_witness_FrameCompletionChoosesTheNextFrame :
    PortId.p1 ≠ .p0 ∧ ready.feeds.port1.frame = none ∧
    ((framing .following true).feeds.port1.frame ≠ none ∧
      ((framing .following true).feeds.profile .a).hold = true) ∧
    ((framing .refreshing false).feeds.port1.frame ≠ none ∧
      ((framing .refreshing false).feeds.profile .a).hold = false ∧
      100 ≤ (framing .refreshing false).feeds.port1.credit ∧
      (framing .refreshing false).feeds.port1.state = .refreshing) ∧
    (let p := (framing .following false).feeds.port1;
      100 ≤ p.credit ∧ p.state = .following ∧ p.displayed ≤ p.valid ∧ p.displayed < 5) := by decide +kernel

/-- A port 1 that shows five bytes, to a valid end, with so much told of settling. -/
def showing (valid settledSent : Nat) : State :=
  let s := framing .following false
  { s with feeds := { s.feeds with
      port1 := { s.feeds.port1 with displayed := 5, valid := valid, settledSent := settledSent } } }

/-- The RETRACT, the SETTLE and nothing: the frames of a display that shows all five bytes. -/
theorem test_witness_FrameCompletionChoosesTheNextFrame_rest :
    let frame (s : State) := (after (.frameCompletion .p1) s).feeds.port1.frame.map (·.bytes)
    let live (s : State) : State := { s with
      feeds := { s.feeds with profileA := { s.feeds.profileA with mode := .live } } }
    ((showing 3 5).feeds.port1.valid < (showing 3 5).feeds.port1.displayed ∧ frame (showing 3 5) = some [0x08, 0, 2]) ∧
    ((live (showing 5 2)).feeds.profileA.mode = .live ∧ frame (live (showing 5 2)) = some [0x11, 0, 3]) ∧
    frame (showing 5 5) = none ∧
    (let s : State := { showing 3 5 with
        feeds := { (showing 3 5).feeds with port1 := { (showing 3 5).feeds.port1 with credit := 99 } } };
      s.feeds.port1.credit < 100 ∧ frame s = none) := by decide +kernel
theorem test_witness_ProfileSetClampsAndRefreshes :
    ready.serves 1 ∧ 2 < (3 : Byte).toNat ∧ 1 < (2 : Byte).toNat ∧ (1 : Byte).toNat ≤ 1 ∧
      profileOf 2 = some .c ∧
      ((after (.profileSet 1 [2, 1, 0xFF, 0xFF, 0, 1, 0xFF, 0xFF]) ready).feeds.profileC) =
        ⟨.settled, 960, 1, true, 2048⟩ := by decide +kernel
theorem test_witness_PortSetAppliesTheEnable :
    held.serves 1 ∧ 4 < (5 : Byte).toNat ∧ 1 < (2 : Byte).toNat ∧ 2 < (3 : Byte).toNat ∧
      0 < (1 : Byte).toNat ∧ portOf 4 = some .p4 ∧ portOf 0 = some .p0 ∧ profileOf 2 = some .c ∧
      speedOf 4 = some .s115200 ∧ (held.feeds.profile .c).hold = true ∧
      (after (.portSet 1 [4, 1, 2, 4]) held).feeds.port4.state = .detached ∧
      (after (.portSet 1 [0, 1, 2, 0xFF]) held).feeds.port0.state = .refreshing ∧
      (after (.portSet 1 [4, 0, 2, 4]) held).feeds.port4.state = .off := by decide +kernel
theorem test_witness_PortQueryReportsTheFeeds :
    (State.reset.takes 1 ∧ State.reset.job.state = .booting) ∧ (ready.takes 1 ∧ ready.job.state ≠ .booting) ∧
      ((after (.portQuery 1 []) ready).link.queue.map (·.bytes.length)) = [6 + 1 + 21 + 110 + 8] := by decide +kernel
theorem test_witness_StartUpResetsEveryBlock :
    ready.memoryOk ∧ (flying (.read 0 1) .transfer false).memoryOk ∧
      (flying (.program 0 [1]) .readyWait false).memoryOk ∧ (flying (.program 0 [1]) .busyWait false).memoryOk ∧
      erasing.memoryOk := by decide +kernel
theorem test_witness_StartUpWaitEnds :
    let s : State := State.reset
    let late : State := { State.reset with now := 400 }
    ready.port.state ≠ .starting ∧ s.now < s.port.startDeadline ∧
    { State.reset with now := 401 }.port.startDeadline < 401 ∧
    (late.port.state = .starting ∧ late.quiet ∧ late.port.items = [] ∧ late.port.headBegun = false ∧
      late.port.journalRequest = none ∧ late.port.translationRequest = none ∧ late.port.linkRequest = none ∧
      late.now ≤ late.port.startDeadline ∧ late.port.startDeadline ≤ late.now) ∧
    late.device.unfinished = none := by decide +kernel
theorem test_witness_OperationsRunThroughTheirPhases :
    ready.port.inFlight = none ∧
    ((flying (.erase 4095) .readyWait false).port.inFlight = some ⟨.erase 4095, .link, .readyWait, 100, false⟩ ∧
      (flying (.erase 4095) .readyWait false).now ≤ 100 ∧ (MemOp.erase 4095).inBounds = true) ∧
    ((flying (.program 0 [1]) .transfer false).port.inFlight =
      some ⟨.program 0 [1], .link, .transfer, 100, false⟩) ∧
    ((flying (.erase 0) .transfer false).port.inFlight = some ⟨.erase 0, .link, .transfer, 100, false⟩) := by
  decide +kernel
theorem test_witness_ProgramsAndErasesChangeTheirBytes :
    let p := flying (.program 16777215 [1]) .busyWait true
    (p.memoryOk ∧ p.port.inFlight = some ⟨.program 16777215 [1], .link, .busyWait, 100, true⟩ ∧ p.now ≤ 100 ∧
      p.quiet ∧ p.port.chosen = none ∧ [(1 : Byte)][0]? = some 1) ∧
    (erasing.memoryOk ∧ erasing.port.inFlight = some ⟨.erase 1, .link, .busyWait, 100, true⟩ ∧
      erasing.now ≤ 100 ∧ erasing.quiet ∧ erasing.port.chosen = none ∧ 1 * 4096 ≤ 8191 ∧
      8191 < 1 * 4096 + 4096) := by decide +kernel
/-- A part whose journal, or whose item at the head, has a PROGRAM or an ERASE to end. -/
def ending (op : MemOp) (requester : Requester) (work : JournalOp) (items : List LinkItem) : State := { opened with
  now := 100
  journal := { opened.journal with op := work }
  port := { opened.port with
    state := .busy, items := items, headBegun := !items.isEmpty
    inFlight := some ⟨op, requester, .busyWait, 100, false⟩ } }

theorem test_witness_ProgramsAndErasesChangeTheirBytes_journal :
    let w : RecordWrite := ⟨0, 127, jobOpenRecord, false⟩
    let works : List (JournalOp × MemOp) :=
      [(.record w .program, .read 266208 32), (.record w .commit, .read 266208 1),
        (.voidRecord w false, .read 266208 1), (.header 0 [] .program, .read 262144 32),
        (.header 0 [] .commit, .read 262144 1), (.voidHeader 0 false, .read 262144 1),
        (.retire 0 false, .read 262144 1), (.correct 0 127 false, .read 266208 1)]
    ∀ x ∈ works,
      let s := ending (.program 266208 [0]) .journal x.1 []
      s.memoryOk ∧ s.quiet ∧ s.port.chosen = none ∧ s.journal.scan = none ∧ s.journal.aborting = false ∧
        (after .programComplete s).port.inFlight.map (·.op) = some x.2 := by decide +kernel
theorem test_witness_ProgramsAndErasesChangeTheirBytes_items :
    let record : List Byte := List.replicate 681 0x11
    let programs : List (LinkItem × MemOp) :=
      [(.imageWrite 1 0 [1, 2] false, .read 0 2),
        (.storeSettings 1 record 1 true, .program 256 (List.replicate 256 0x11)),
        (.storeSettings 1 record 2 true, .program 512 (List.replicate 169 0x11)),
        (.storeSettings 1 record 3 true, .read 0 256)]
    let erases : List (LinkItem × Option MemOp) :=
      [(.storeSettings 1 record 0 true, some (.program 0 (List.replicate 256 0x11))), (.imageErase 1 5, none),
        (.journalErase 1 [64, 65] 0, some (.erase 65)), (.journalErase 1 [65] 1, some (.read 262144 32))]
    (∀ x ∈ programs,
      let s := ending (.program 0 [0]) .link .seeking [x.1]
      s.memoryOk ∧ s.quiet ∧ s.port.chosen = none ∧
        (after .programComplete s).port.inFlight.map (·.op) = some x.2) ∧
    (∀ x ∈ erases,
      let s := ending (.erase 65) .link .seeking [x.1]
      s.memoryOk ∧ s.quiet ∧ s.port.chosen = none ∧ 0 < s.params.journalCount ∧
        (after .eraseComplete s).port.inFlight.map (·.op) = x.2) := by decide +kernel
theorem test_witness_TimeoutsAreCounted :
    let w := flying (.erase 1) .readyWait true
    (w.memoryOk ∧ w.port.inFlight = some ⟨.erase 1, .link, .readyWait, 100, true⟩ ∧ 100 ≤ w.now ∧ w.quiet ∧
      w.port.chosen = none) ∧
    (erasing.port.inFlight = some ⟨.erase 1, .link, .busyWait, 100, true⟩ ∧ 100 ≤ erasing.now) ∧
    { w with now := 99 }.now < 100 := by decide +kernel

/-- A part whose recovery scan has an operation in flight. -/
def scanning (stage : ScanStage) (n : Nat) (bytes : List Byte) (phase : Phase) : State := { ready with
  now := 100
  device := { Device.reset with mem := Mem.program [] 0 bytes }
  journal := { ready.journal with
    scan := some stage, current := some 2
    sectors := ⟨.retired, some 3⟩ :: ⟨.blank, none⟩ :: ⟨.inUse, some 5⟩ :: List.replicate 5 ⟨.blank, none⟩ }
  params := { ready.params with lowThreshold := 5 }
  port := { ready.port with state := .busy, inFlight := some ⟨.read 0 n, .journal, phase, 100, false⟩ } }

theorem test_witness_TimeoutsAreCounted_requesters :
    let read : State := { flying (.read 0 2) .readyWait false with
      port := { (flying (.read 0 2) .readyWait false).port with items := [.imageRead 1 0 2], headBegun := true } }
    let scan := scanning (.classify 0 false) 32 [] .readyWait
    (read.memoryOk ∧ read.port.inFlight = some ⟨.read 0 2, .link, .readyWait, 100, false⟩ ∧ 100 ≤ read.now ∧
      read.quiet ∧ read.port.chosen = none ∧ read.port.items = [.imageRead 1 0 2]) ∧
    (scan.memoryOk ∧ 100 ≤ scan.now ∧ scan.quiet ∧ scan.port.chosen = none ∧ scan.port.items = [] ∧
      scan.journal.mode = .idle ∧ scan.journal.scanReplies = [] ∧
      scan.journal.scan = some (.classify 0 false) ∧ (∀ todo, ScanStage.classify 0 false ≠ .voids todo)) :=
  ⟨by decide +kernel, by decide +kernel, by decide +kernel, by decide +kernel, by decide +kernel, by decide +kernel,
    by decide +kernel, by decide +kernel, by decide +kernel, nofun⟩

/-- R162: a COMPLETION_TIMEOUT whose outcome goes to its requester raises MEMORY_FAULT. -/
theorem test_completion_timeout_raises :
    let s : State := { flying (.erase 3) .busyWait false with
      port := { (flying (.erase 3) .busyWait false).port with items := [.imageErase 1 3], headBegun := true } }
    s.memoryOk ∧ 100 ≤ s.now ∧ (after .completionTimeout s).link.conditionsPending = 0x04 := by decide +kernel

/-- A part whose last transfer is that of an item. -/
def reading (i : LinkItem) (n : Nat) : State := { flying (.read 0 n) .transfer false with
  port := { (flying (.read 0 n) .transfer false).port with items := [i], headBegun := true } }

theorem test_witness_ReadsAnswerTheirRequests :
    (let s := reading (.imageRead 1 0 2) 2;
      s.port.inFlight = some ⟨.read 0 2, .link, .transfer, 100, false⟩ ∧ s.quiet ∧ s.port.headBegun = true ∧
        s.port.chosen = none ∧ s.port.items = [.imageRead 1 0 2]) ∧
    (let s := reading (.imageWrite 1 0 [0xFF, 0xFE] true) 2;
      s.quiet ∧ s.port.headBegun = true ∧ s.port.chosen = none ∧ [(0xFF : Byte), 0xFE].length = 2 ∧
        ((after (.readComplete [0, 1]) s).link.queue.map (·.bytes.getD 4 9)) = [0x00] ∧
        ((after (.readComplete []) s).link.queue.map fun m => (m.bytes.drop 4).take 2) = [[0x0A, 1]]) := by decide +kernel
/-- A part whose lookup of stroke 5 is at a stage of its walk, with the bytes that its READ brings. -/
def walking (stage : WalkStage) (bytes : List Byte) : State :=
  let s := flying (.read 0 bytes.length) .transfer false
  { s with
    device := { Device.reset with mem := Mem.program [] 0 bytes }
    port := { s.port with inFlight := some ⟨.read 0 bytes.length, .translation, .transfer, 100, false⟩ }
    dict := { s.dict with
      layer3 := ⟨2, 1, true, true, false, 8, 1, 1060, 0⟩
      lookup := some ⟨[5], ⟨.undecided, false, false⟩, .l3, [], stage⟩ }
    engine := { s.engine with state := .evaluating, run := some (.begin false [⟨1, 5⟩]) } }

/-- The walk's clauses, with the lowest and the highest offset of section 3.2 and one beyond each, and the last
record of a chain. -/
theorem test_witness_ReadsAnswerTheirRequests_walk :
    let slot (n : Nat) := walking .slot (be32 n)
    let fixed : List Byte := [0xFF, 0xFF, 0xFF, 0xFF, 1, 0x01, 1]
    let rest (check : Byte) := walking (.remainder 1040 31 fixed) [0, 0, 5, 0x41, check]
    let other := walking (.remainder 1040 31 fixed) [0, 0, 6, 0x41, 0x46]
    let op (s : State) := (after (.readComplete []) s).port.inFlight.map (·.op)
    let faults (s : State) := (after (.readComplete []) s).dict.layer3.faultCount
    ((slot 1040).quiet ∧ (slot 1040).port.chosen = none ∧
      (slot 1040).dict.lookup = some ⟨[5], ⟨.undecided, false, false⟩, .l3, [], .slot⟩ ∧
      (slot 1040).engine.run = some (.begin false [⟨1, 5⟩])) ∧
    op (slot 1040) = some (.read (8192 + 1040) 7) ∧ op (slot 1049) = some (.read (8192 + 1049) 7) ∧
    faults (slot 1039) = 1 ∧ faults (slot 1050) = 1 ∧ faults (slot 0xFFFFFFFF) = 0 ∧
    op (walking (.fixedPart 1040 0) fixed) = some (.read (8192 + 1047) 5) ∧
    faults (walking (.fixedPart 1040 0) [0xFF, 0xFF, 0xFF, 0xFF, 9, 1, 1]) = 1 ∧
    faults (rest 0x45) = 0 ∧ faults (rest 0x44) = 1 ∧ faults other = 0 := by decide +kernel
theorem test_witness_ImageRequestsReachThePort :
    let pending : State := { ready with job := { ready.job with openPending := some ⟨1, 7, false, .noCause⟩ } }
    let waits := after (.imageErase 1 [0, 5]) ready
    (ready.serves 1 ∧ ready.quiet ∧ ready.portFree ∧ ready.job.openPending = none ∧ ready.job.state = .noJob) ∧
    (pending.serves 1 ∧ pending.job.openPending ≠ none) ∧ (closing.serves 1 ∧ closing.job.openPending = none) ∧
    (waits.serves 1 ∧ waits.quiet ∧ waits.itemInHand) ∧
    0xFF * 65536 + 0xFF * 256 + 0xFF + 1 ≤ 16777216 ∧ 16777216 < 0xFF * 65536 + 0xFF * 256 + 0xFF + 2 ∧
    ((after (.imageErase 1 [0x10, 0]) ready).link.queue.map (·.bytes.getD 4 0)) = [0x05] ∧
    ((after (.imageErase 1 [0, 71]) ready).link.queue.map (·.bytes.getD 4 0)) = [0x08] ∧
    (after (.imageErase 1 [0x0F, 0xFF]) ready).port.inFlight.map (·.op) = some (.erase 4095) := by decide +kernel
theorem test_witness_JournalRequestsReachThePort :
    let scanning : State := { ready with journal := { ready.journal with scan := some (.classify 0 false) } }
    let recorded : State := { ready with journal := { opened.journal with mode := .idle, cursorSlot := 2 } }
    let old : State := { recorded with journal := { recorded.journal with current := none } }
    (scanning.serves 1 ∧ scanning.journal.scan ≠ none) ∧
    (ready.serves 1 ∧ ready.journal.scan = none ∧ ready.quiet ∧ ready.portFree ∧ ready.journal.bySerial = []) ∧
    (recorded.journal.bySerial = [(0, 1)] ∧ recorded.quiet ∧ recorded.portFree ∧ recorded.journal.scan = none ∧
      recorded.journal.op = .waiting ∧ recorded.journal.current = some recorded.journal.cursorSector ∧
      recorded.journal.appendPoint ≤ recorded.journal.cursorSlot) ∧
    (old.quiet ∧ old.portFree ∧ old.journal.current ≠ some old.journal.cursorSector ∧
      old.journal.cursorSlot < 128 ∧ (old.journal.row old.journal.cursorSector).serial ≠ none) ∧
    (closing.serves 1 ∧ closing.job.openPending = none ∧ closing.job.abortPending = none) ∧
    (after (.journalErase 1 [0, 7, 0, 1]) ready).port.inFlight.map (·.op) = some (.erase 71) ∧
    ((after (.journalErase 1 [0, 7, 0, 2]) ready).link.queue.map (·.bytes.getD 4 0)) = [0x05] := by decide +kernel
theorem test_witness_StoreAndRegionReachThePort :
    let aborting : State := { ready with job := { ready.job with abortPending := some ⟨1, 0⟩ } }
    (aborting.serves 1 ∧ aborting.job.abortPending ≠ none) ∧
    (opened.serves 1 ∧ opened.job.openPending = none ∧ opened.job.abortPending = none ∧
      opened.journal.scan = none) ∧
    (ready.serves 1 ∧ ready.job.state = .noJob ∧ ready.quiet ∧ ready.portFree ∧ 1 ≤ 4088 ∧ 8 ≤ 8 ∧
      4088 + 8 ≤ 4096 ∧ ∀ i ∈ allLayers, (ready.dict.layer i).count = 0) ∧
    let meets : State := { ready with
      dict := { ready.dict with layer2 := { Layer.reset with base := 100, count := 1 } } }
    (0 < (meets.dict.layer .l2).count ∧ 93 < 100 + 1 ∧ 100 < 93 + 8) := by decide +kernel
/-- The scan's clauses: both stages of a sector, the last sector, a slot, slot 127 and the latest record. -/
theorem test_witness_StoreAndRegionReachThePort_scan :
    let op (s : State) := (after (.readComplete []) s).port.inFlight.map (·.op)
    let seen (last : Bool) : List (Byte × Bool) := (0x7F, false) :: (0x3F, false) ::
      List.replicate 123 (0xFF, true) ++ [(0x3F, last)]
    let base := 64 * 4096
    ((scanning (.classify 0 false) 32 [] .transfer).quiet ∧
      (scanning (.classify 0 false) 32 [] .transfer).port.chosen = none) ∧
    op (scanning (.classify 0 false) 32 [] .transfer) = some (.read (base + 32) 32) ∧
    op (scanning (.classify 0 false) 32 [0x3F] .transfer) = some (.read (base + 4096) 32) ∧
    op (scanning (.classify 0 true) 32 [] .transfer) = some (.read (base + 4096) 32) ∧
    op (scanning (.classify 7 true) 32 [] .transfer) = some (.read (base + 2 * 4096 + 32) 32) ∧
    op (scanning (.slots 126 []) 32 [] .transfer) = some (.read (base + 2 * 4096 + 127 * 32) 32) ∧
    op (scanning (.slots 127 (seen true)) 32 [] .transfer) = some (.program (base + 2 * 4096 + 32) [0]) ∧
    op (scanning (.slots 127 (List.replicate 126 (0xFF, true))) 32 [] .transfer) =
      some (.read (base + 2 * 4096 + 127 * 32) 10) ∧
    op (scanning (.latest 2 2 [0]) 10 [] .transfer) = some (.read (base + 2 * 4096 + 32) 10) ∧
    (let s := scanning (.latest 2 2 [0]) 10 [0x3F, 0x04, 0, 0, 0, 0, 0, 1, 0, 9] .transfer;
      s.journal.scanReplies = [] ∧ s.boot = .done ∧ s.journal.mode = .idle ∧ s.port.items = [] ∧
        s.params.lowThreshold < s.journal.sectors.countP (fun r => r.cls == .blank) ∧
        (after (.readComplete []) s).journal.unclosedJob = some 9 ∧
        (after (.readComplete []) s).journal.nextSector = some 3 ∧
        (after (.readComplete []) s).journal.cursorSector = 0) := by decide +kernel
/-- The scan without an IN_USE sector, with a serial and without, and the search at slot 1. -/
theorem test_witness_StoreAndRegionReachThePort_none_in_use :
    let op (s : State) := (after (.readComplete []) s).port.inFlight.map (·.op)
    let retired : State := { scanning (.classify 7 true) 32 [] .transfer with
      journal := { (scanning (.classify 7 true) 32 [] .transfer).journal with
        sectors := ⟨.retired, some 3⟩ :: List.replicate 7 ⟨.blank, none⟩, appendPoint := 9 } }
    let empty : State := { retired with
      journal := { retired.journal with sectors := List.replicate 8 ⟨.blank, none⟩, highestSerial := 4 } }
    let base := 64 * 4096
    (retired.quiet ∧ (∀ z ∈ retired.journal.bySerial, (retired.journal.row z.1).cls ≠ .inUse) ∧
      retired.journal.bySerial = [(0, 3)] ∧ op retired = some (.read (base + 127 * 32) 10) ∧
      (after (.readComplete []) retired).journal.appendPoint = 1) ∧
    (empty.quiet ∧ empty.journal.bySerial = [] ∧ empty.journal.scanReplies = [] ∧ empty.boot = .done ∧
      empty.journal.mode = .idle ∧ empty.port.items = [] ∧
      empty.params.lowThreshold < empty.journal.sectors.countP (fun r => r.cls == .blank) ∧
      (after (.readComplete []) empty).journal.highestSerial = 0 ∧
      (after (.readComplete []) empty).journal.cursorSlot = 1) ∧
    op (scanning (.latest 2 1 [0]) 10 [] .transfer) = some (.read (base + 127 * 32) 10) ∧
    (after (.readComplete []) (scanning (.latest 2 1 []) 10 [] .transfer)).journal.scan = none := by decide +kernel
theorem test_witness_JobOpenChecksAndValidates :
    let layer : Layer := { Layer.reset with base := 100, count := 1, enable := true, checkPending := true }
    let s : State := { ready with
      dict := { ready.dict with layer1 := layer }
      journal := { opened.journal with mode := .idle, appendPoint := 127 } }
    let failed : State := { s with journal := { s.journal with memoryFailed := true } }
    (ready.serves 1 ∧ ready.job.openPending = none ∧ ready.job.abortPending = none ∧ ready.job.state = .noJob) ∧
    (closing.serves 1 ∧ closing.job.state = .closing) ∧
    (s.serves 1 ∧ s.job.state = .noJob ∧ s.journal.scan = none ∧ s.journal.op ≠ .seeking ∧ s.quiet ∧
      s.portFree ∧ s.journal.memoryFailed = false ∧ s.journal.current ≠ none ∧ s.journal.appendPoint < 128) ∧
    (failed.quiet ∧ failed.portFree ∧ failed.journal.memoryFailed = true) ∧
    (after (.jobOpen 1 [0, 7, 1]) s).port.items = [.validation [.l1]] ∧
    (let s := { s with dict := ready.dict };
      s.serves 1 ∧ s.quiet ∧ s.portFree ∧ (after (.jobOpen 1 [0, 7, 1]) s).job.state = .opened) := by decide +kernel
theorem test_witness_JobOpenChecksAndValidates_reads :
    let s (rest : List LayerId) : State :=
      let r := readingAt (.validation (.l1 :: rest)) 8192 16 header .transfer
      { r with
        job := { r.job with openPending := some ⟨1, 7, true, .failed⟩ }
        dict := { r.dict with layer1 := { Layer.reset with base := 2, count := 1, enable := true } } }
    ((s [.l3]).port.inFlight = some ⟨.read 8192 16, .link, .transfer, 100, false⟩ ∧
      (s [.l3]).port.items = [.validation [.l1, .l3]] ∧ (s [.l3]).port.headBegun = true ∧
      (s [.l3]).port.chosen = none ∧ (s [.l3]).quiet ∧ (s []).quiet) ∧
    (after (.readComplete []) (s [.l3])).port.items = [.validation [.l3]] ∧
    (after (.readComplete []) (s [])).job.state = .opened ∧
    (after (.readComplete []) (s [])).dict.layer1.entryCount = 5 := by decide +kernel
theorem test_witness_TheOpenTakesEffect :
    let o : OpenPending := ⟨1, 7, false, .noCause⟩
    let s : State := { ready with job := { ready.job with openPending := some o } }
    s.job.openPending = some o ∧ (openTakesEffect s).job.state = .opened := by decide +kernel
theorem test_witness_JobCloseIsTaken :
    (ready.serves 1 ∧ ready.job.state ≠ .opened) ∧
      (busy.serves 1 ∧ busy.job.state = .opened ∧ busy.quiet ∧ busy.consumersBusy) := by decide +kernel
/-- The close's completion, in RUNNING at the read-back of its record and in PASSING at once. -/
theorem test_witness_JobCloseIsTaken_completes :
    let w : RecordWrite := ⟨0, 2, ⟨.jobClose, false, false, 0, 1, 0, 0, 0, none⟩, false⟩
    let closes : State := { opened with
      now := 100
      device := { Device.reset with mem := Mem.program [] 262208 [0x3F] }
      journal := { opened.journal with op := .record w .check, closePending := true }
      engine := { opened.engine with state := .draining, closeMark := true }
      job := { opened.job with state := .closing, closePending := some 1, translationDrained := true }
      port := { opened.port with
        state := .busy, inFlight := some ⟨.read 262208 1, .journal, .transfer, 100, false⟩ } }
    let passes : State := { opened with
      journal := { opened.journal with mode := .passing, cause := .failed }
      engine := { opened.engine with cache := [([5], ⟨.undecided, false, false⟩)] } }
    (closes.port.inFlight = some ⟨.read 262208 1, .journal, .transfer, 100, false⟩ ∧ closes.quiet ∧
      closes.journal.op = .record w .check ∧ w.record.kind = .jobClose ∧ closes.journal.scan = none ∧
      closes.journal.aborting = false ∧ closes.journal.mode = .running ∧ closes.journal.cause = .noCause ∧
      closes.job.closePending = some 1 ∧ closes.engine.chunks = [] ∧ closes.engine.run = none ∧
      closes.port.chosen = none ∧ Mem.read1 closes.device.mem 262208 = 0x3F ∧
      (after (.readComplete []) closes).job.state = .noJob ∧
      ((after (.readComplete []) closes).link.queue.map fun m => (m.bytes.drop 4).take 11) =
        [[0, 0, 7, 0, 0, 0, 1, 0, 0, 0, 2]]) ∧
    (passes.serves 1 ∧ passes.job.state = .opened ∧ passes.quiet ∧ passes.journal.op = .waiting ∧
      passes.journal.scan = none ∧ passes.journal.aborting = false ∧ passes.journal.amendments = [] ∧
      passes.ring.entries = [] ∧ passes.ring.holding = none ∧ passes.ring.translationCursor = passes.ring.nextSeq ∧
      passes.ring.journalCursor = passes.ring.nextSeq ∧ passes.engine.state = .waiting ∧
      passes.engine.window = [] ∧ passes.engine.chunks = [] ∧ passes.engine.tail = [] ∧
      passes.engine.heldMark = none ∧ passes.engine.reevaluationPending = false ∧
      (∀ x ∈ passes.engine.cache, x.1 ≠ []) ∧ passes.dict.lookup = none ∧
      (after (.jobClose 1 []) passes).engine.cache = [] ∧
      (after (.jobClose 1 []) passes).job.state = .noJob ∧
      ((after (.jobClose 1 []) passes).link.queue.map fun m => (m.bytes.drop 27).take 3) = [[2, 1, 0]]) := by
  decide +kernel
theorem test_witness_JobAbortDiscardsTheWork :
    (ready.serves 1 ∧ ready.job.state = .noJob) ∧
      (opened.serves 1 ∧ opened.job.state = .opened ∧ opened.quiet ∧ opened.job.closePending = none ∧
        opened.journal.op = .waiting ∧ opened.journal.aborting = false ∧
        opened.stream.settled = opened.stream.length ∧ opened.port.translationRequest = none ∧
        opened.port.inFlight = none ∧ (∀ i ∈ opened.port.items, LinkItem.isSeek i = false)) := by decide +kernel
/-- R175: an abort of a CLOSING job answers the pending JOB_CLOSE with STATE, then itself. -/
theorem test_abort_answers_the_pending_close :
    let s : State := { closing with job := { closing.job with closePending := some 5 } }
    (s.serves 1 ∧ s.job.state = .closing ∧ s.quiet ∧ s.journal.op = .waiting ∧ s.journal.aborting = false) ∧
      ((after (.jobAbort 1 []) s).link.queue.map fun m => (m.bytes.drop 2).take 3) =
        [[0x13, 5, 2], [0x14, 1, 0]] := by decide +kernel
/-- R104: after an abort that discards unsettled text, L is the resolved end and the retained text ends there. -/
theorem test_abort_keeps_the_tiling :
    let u := translated [cat] []
    let s : State := { u with
      stream := { u.stream with store := [1, 2, 3, 4, 5] }, engine := { u.engine with resolvedEnd := 8 } }
    let t := after (.jobAbort 1 []) s
    (retainedText s).length = s.stream.length ∧ t.stream.length = 5 ∧ t.engine.resolvedEnd = 5 ∧
      retainedText t = [1, 2, 3, 4, 5] := by decide +kernel
theorem test_witness_CommitAdvancesTheJournal :
    let r (k : JournalKind) : RecordWrite := ⟨0, 2, ⟨k, false, false, 0, 1, 0, 0, 0, none⟩, false⟩
    (r .stroke).record.kind = .stroke ∧ (r .jobOpen).record.kind = .jobOpen ∧
      (commitRecord (r .stroke) opened).journal.durable = some 1 ∧
      (commitRecord (r .stroke) opened).ring.journalCursor = 2 ∧
      (commitRecord (r .jobOpen) opened).ring.journalCursor = 1 := by decide +kernel
theorem test_witness_CommitAdvancesTheJournal_read :
    let w : RecordWrite := ⟨0, 2, ⟨.stroke, false, false, 0, 1, 0, 0, 0, none⟩, false⟩
    let s : State := { opened with
      now := 100
      device := { Device.reset with mem := Mem.program [] 262208 [0x3F] }
      journal := { opened.journal with op := .record w .check }
      port := { opened.port with
        state := .busy, inFlight := some ⟨.read 262208 1, .journal, .transfer, 100, false⟩ } }
    (s.port.inFlight = some ⟨.read 262208 1, .journal, .transfer, 100, false⟩ ∧
      s.journal.op = .record w .check ∧ s.journal.scan = none ∧ s.journal.aborting = false ∧ s.quiet ∧
      s.port.chosen = none) ∧
    (after (.readComplete []) s).journal.durable = some 1 ∧
    (after (.readComplete [0x40]) s).port.inFlight.map (·.op) = some (.program 262208 [0]) := by decide +kernel
/-- A part that reads back the VOID of a failed copy, with the failures counted so far. -/
def voiding (consecutive sector : Nat) (status : Byte) : State := { opened with
  now := 100
  device := { Device.reset with mem := Mem.program [] 262208 [status] }
  journal := { opened.journal with
    op := .voidRecord ⟨0, 2, jobOpenRecord, false⟩ true, consecutiveFailures := consecutive, sectorFailures := sector }
  port := { opened.port with
    state := .busy, inFlight := some ⟨.read 262208 1, .journal, .transfer, 100, false⟩ } }

/-- R142: at 2 sector failures the sector is retired; at 1, and at 3 in a later job, the copy is written again. -/
theorem test_witness_CommitAdvancesTheJournal_voids :
    ((voiding 1 2 0).quiet ∧ (voiding 1 2 0).port.chosen = none ∧ (voiding 1 2 0).journal.aborting = false ∧
      (voiding 1 2 0).journal.scan = none) ∧
    (after (.readComplete []) (voiding 1 2 0)).journal.op = .retire 0 false ∧
    (after (.readComplete []) (voiding 2 1 0)).journal.appendPoint = 3 ∧
    (after (.readComplete []) (voiding 1 3 0)).journal.op = .record ⟨0, 3, jobOpenRecord, true⟩ .program ∧
    (after (.readComplete []) (voiding 3 2 0)).journal.mode = .passing ∧
    (after (.readComplete []) (voiding 1 1 4)).journal.mode = .passing := by decide +kernel
/-- R153: an abort in PASSING after a VOID program that failed leaves the append point after the slot it used. -/
theorem test_abort_leaves_the_slot_used :
    let s := { after (.readComplete []) (voiding 1 1 4) with now := 101 }
    s.journal.op = .waiting ∧ s.journal.appendPoint = 2 ∧ s.journal.slotSpent = true ∧
      (after (.jobAbort 1 []) s).journal.appendPoint = 3 ∧
      (after (.jobAbort 1 []) s).journal.slotSpent = false := by decide +kernel
theorem test_witness_FramesThatAreNotServed :
    let full : State := { ready with link := { ready.link with outstanding := 8, linkFaults := 0xFFFFFFFF } }
    (¬ full.takes 1 ∧ ¬ ready.takes 0 ∧ requestOf (.status 0 []) = some (kindStatus, 0, [])) ∧
      ready.takes 1 ∧ (after .frameDiscarded full).link.linkFaults = 0xFFFFFFFF := by decide +kernel
theorem test_witness_BusyAndLengthAnswers :
    requestOf (.strike 1 []) = some (0x15, 1, []) ∧ State.reset.takes 1 ∧ State.reset.job.state = .booting ∧
      (0x15 : Byte) ≠ 0x01 ∧ (0x15 : Byte) ≠ 0x02 ∧ ready.takes 1 ∧ ready.job.state ≠ .booting ∧
      ((0x15 : Byte), 0) ∈ fixedLengths ∧ [(0 : Byte)].length ≠ 0 := by decide +kernel

/-- A part in IN_FRAME with bytes taken. -/
def receiving (taken : List Byte) : State := { ready with link := { ready.link with framer := .inFrame taken } }

theorem test_witness_ReceivedFramesAreHandedOn :
    let body : List Byte := [0, 0x02, 1]
    ((receiving body).link.framer = .inFrame (0 :: [0x02, 1]) ∧ [(0x02 : Byte), 1].length < 3 + (0 : Byte).toNat ∧
      (after (.frameByteReceived 9) (receiving body)).link.framer = .inFrame [0, 0x02, 1, 9]) ∧
    ready.link.framer = .hunting ∧ (receiving []).link.framer = .inFrame [] ∧ 240 < (241 : Byte).toNat ∧
      (240 : Byte).toNat ≤ 240 ∧ (receiving (body ++ (crcBytes body).take 1)).link.framer =
        .inFrame (body ++ (crcBytes body).take 1) ∧
      requestOf (.status 1 []) = some (0x02, 1, []) ∧ (Instr.status 1 []).wellFormed = true ∧
      30 < (31 : Byte).toNat ∧
      (after (.frameByteReceived ((crcBytes body).getD 1 0)) (receiving (body ++ (crcBytes body).take 1))).link.outstanding =
        1 := by decide +kernel

/-- A part with one message in its outbound queue. -/
def sending (isReply : Bool) (sent : Nat) : State := { held with
  link := { held.link with queue := [⟨isReply, [0xA6, 5], sent, 0⟩], outstanding := 1 } }

theorem test_witness_MessagesDepart :
    ready.link.queue = [] ∧ (sending true 0).link.queue = [⟨true, [0xA6, 5], 0, 0⟩] ∧ 0 + 1 < [(0xA6 : Byte), 5].length ∧
      [(0xA6 : Byte), 5].length ≤ 1 + 1 ∧ (sending false 1).link.notifyPending = 0 ∧
      ((sending false 1).feeds.profile (sending false 1).feeds.port0.profile).hold = true ∧
      (after .byteClockedOut (sending true 0)).link.sdo = 0xA6 ∧
      (after .byteClockedOut (sending true 1)).link.outstanding = 0 := by decide +kernel
/-- Port 0's clauses: each of its four frames and none, and a deferred CONDITION notice. -/
theorem test_witness_MessagesDepart_notices :
    let s (state : PortState) (valid displayed settledSent : Nat) : State := { opened with
      stream := { opened.stream with
        length := 6, settled := 6, store := [1, 2, 3, 4, 5, 6], unrecordedPoint := some 5 }
      link := { opened.link with queue := [⟨false, [0xA6], 0, 0⟩] }
      feeds := { opened.feeds with
        profileC := { opened.feeds.profileC with mode := .live, hold := false }
        port0 := { opened.feeds.port0 with
          state := state, credit := 199, valid := valid, displayed := displayed, settledSent := settledSent } } }
    let edit (s : State) := (after .messageDeparture s).link.queue.map fun m => (m.bytes.drop 4).take 10
    ((s .refreshing 0 0 0).feeds.port0.frame = none ∧ (s .refreshing 0 0 0).link.notifyPending = 0 ∧
      edit (s .refreshing 0 0 0) = [[1, 0, 0, 7, 0, 0, 0, 0, 0] ++ (crcBytes ([9, 0x41, 0, 1, 0, 0, 7, 0, 0, 0, 0, 0])).take 1]) ∧
    (edit (s .following 3 6 0)).map (·.take 9) = [[2, 0, 0, 7, 0, 0, 0, 3, 0]] ∧
    edit (s .following 5 5 0) = [[3, 0, 0, 7, 0, 0, 0, 5, 1, 6]] ∧
    (edit (s .following 6 6 4)).map (·.take 9) = [[4, 1, 0, 7, 0, 0, 0, 6, 0]] ∧
    edit (s .following 6 6 6) = [] ∧
    (let t : State := { sending false 1 with link := { (sending false 1).link with notifyPending := 0x40 } };
      t.link.notifyPending = Condition.linkFault.bit ∧ (t.feeds.profile t.feeds.port0.profile).hold = true ∧
        (after .messageDeparture t).link.queue.map (·.bytes.getD 4 0) = [0x40]) := by decide +kernel
theorem test_witness_AttnFollowsTheQueue :
    (after .gatherTimeExpiry { sending false 0 with now := 10 }).link.attn = true ∧
      (after .gatherTimeExpiry { sending false 0 with now := 9 }).link.attn = false := by decide +kernel
theorem test_witness_ConditionsAreClearedAndMasked :
    ready.serves 1 ∧ (0x80 : Byte) &&& 0x80 ≠ 0 ∧ (0x7F : Byte) &&& 0x80 = 0 ∧
      ready.link.conditionsPending &&& ready.params.reportMask &&& ~~~(0x7F : Byte) = 0 ∧
      (let s : State := { ready with
          params := { ready.params with reportMask := 0x7F }
          link := { ready.link with conditionsPending := 0x21 } };
        s.serves 1 ∧ s.params.reportMask &&& Condition.linkFault.bit ≠ 0 ∧
          s.link.conditionsPending &&& s.params.reportMask &&& ~~~(0x7E : Byte) = Condition.strokeLost.bit ∧
          s.link.notified &&& Condition.strokeLost.bit = 0 ∧
          (s.link.queue.filter fun m => !m.isReply).length < 40 ∧
          (after (.setReportMask 1 [0x7E]) s).link.queue.map (·.bytes.getD 4 9) = [0x01, 0x00]) ∧
      (let s : State := { ready with link := { ready.link with queue := List.replicate 40 ⟨false, [0xA6], 0, 0⟩ } };
        s.params.reportMask &&& Condition.linkFault.bit = 0 ∧
          40 ≤ (s.link.queue.filter fun m => !m.isReply).length ∧
          (raise .linkFault s).link.notifyPending = 0x40) := by decide +kernel
theorem test_witness_IdentifyAndStatusReport : State.reset.takes 1 ∧ ready.takes 0xFF := by decide +kernel
theorem test_witness_ParametersAreClampedAndStored :
    let few : State := { ready with journal := { ready.journal with blankCount := 65 } }
    ready.serves 1 ∧ ready.journal.blankCount ≤ 8 ∧ (few.serves 1 ∧ 64 < few.journal.blankCount) ∧
      (List.replicate 240 (0x20 : Byte)).length ≤ 240 ∧ (15 : Byte).toNat ≤ 15 ∧
      (after (.setResolvePause 1 [0, 1]) ready).params.resolvePause = 100 ∧
      (after (.setStuckLimit 1 [0xFF, 0xFF]) ready).params.stuckLimit = 5000 := by decide +kernel
theorem test_witness_ParametersAreRead :
    let s : State := { ready with params := { ready.params with marks := ready.params.marks.set 15 (some ⟨0, [0x41]⟩) } }
    s.serves 1 ∧ [(1 : Byte), 2].length ≠ 1 ∧ (15 : Byte).toNat ≤ 15 ∧
      s.params.marks.getD 15 none = some ⟨0, [0x41]⟩ ∧ s.params.marks.getD 0 none = none ∧
      0x0D < (0x0E : Byte).toNat ∧ 15 < (16 : Byte).toNat := by decide +kernel
/-- A mark table entry: its set byte, a number past the table, text ignored where it is unset; and each identifier's
length. -/
theorem test_set_param_refusals :
    let code (c : Instr) : List Byte := (after c ready).link.queue.map (·.bytes.getD 4 9)
    code (.setMarkTableEntry 1 [3, 2, 0, 0]) = [5] ∧ code (.setMarkTableEntry 1 [16, 0, 0, 0]) = [5] ∧
    code (.setMarkTableEntry 1 [15, 0, 0xFF, 1, 0x1F]) = [0] ∧ code (.setMarkTableEntry 1 [3, 1, 0, 2, 0x41]) = [4] ∧
    code (.setMarkTableEntry 1 [3, 1, 0]) = [4] ∧ code (.setStuckLimit 1 [1]) = [4] ∧
    code (.setResolvePause 1 [1, 0, 0]) = [4] ∧ code (.setJournalRegion 1 [0, 64, 0]) = [4] ∧
    ready.quiet ∧ code (.setCorrectionDepth 1 []) = [4] := by decide +kernel
theorem test_witness_StoredSettingsLoadBack : ready.settingsInRange := by decide +kernel

/-- The CRC register over the zeros of a settings record, in steps the kernel takes one at a time. -/
theorem test_crc_of_zeros :
    (List.replicate 48 (0 : Byte)).foldl crcByte 0x0866#16 = 0xEA09#16 ∧
    (List.replicate 48 (0 : Byte)).foldl crcByte 0xEA09#16 = 0xCE6F#16 ∧
    (List.replicate 48 (0 : Byte)).foldl crcByte 0xCE6F#16 = 0x07D2#16 ∧
    (List.replicate 48 (0 : Byte)).foldl crcByte 0x07D2#16 = 0xA37C#16 ∧
    (List.replicate 48 (0 : Byte)).foldl crcByte 0xA37C#16 = 0xB875#16 ∧
    (List.replicate 48 (0 : Byte)).foldl crcByte 0xB875#16 = 0x3D72#16 ∧
    (List.replicate 48 (0 : Byte)).foldl crcByte 0x3D72#16 = 0x532A#16 ∧
    (List.replicate 48 (0 : Byte)).foldl crcByte 0x532A#16 = 0xF4EE#16 ∧
    (List.replicate 48 (0 : Byte)).foldl crcByte 0xF4EE#16 = 0x053E#16 ∧
    (List.replicate 48 (0 : Byte)).foldl crcByte 0x053E#16 = 0xD22A#16 ∧
    (List.replicate 48 (0 : Byte)).foldl crcByte 0xD22A#16 = 0x40BD#16 ∧
    (List.replicate 48 (0 : Byte)).foldl crcByte 0x40BD#16 = 0x3712#16 ∧
    (List.replicate 48 (0 : Byte)).foldl crcByte 0x3712#16 = 0xF0CE#16 ∧
    (List.replicate 48 (0 : Byte)).foldl crcByte 0xF0CE#16 = 0xA181#16 ∧
    (List.replicate 2 (0 : Byte)).foldl crcByte 0xA181#16 = 0xAFE6#16 := by decide +kernel

/-- A valid settings record whose content bytes are all 00h, in its three parts; its CRC is AFE6h. -/
def zerosFirst : List Byte := [0x5A, 0xC3, 0x01, 0x02, 0xA2] ++ List.replicate 251 0
def zerosSecond : List Byte := List.replicate 256 0
def zerosThird : List Byte := List.replicate 167 0 ++ [0xAF, 0xE6]

theorem test_zeros_crc : crc16 ([0x01, 0x02, 0xA2] ++ List.replicate 674 0) = 0xAFE6#16 := by
  obtain ⟨h0, h1, h2, h3, h4, h5, h6, h7, h8, h9, h10, h11, h12, h13, h14⟩ := test_crc_of_zeros
  have start : ([0x01, 0x02, 0xA2] : List Byte).foldl crcByte 0xFFFF#16 = 0x0866#16 := by decide +kernel
  have cut : List.replicate 674 (0 : Byte) = List.replicate 48 0 ++ List.replicate 48 0 ++ List.replicate 48 0 ++ List.replicate 48 0 ++ List.replicate 48 0 ++ List.replicate 48 0 ++ List.replicate 48 0 ++ List.replicate 48 0 ++ List.replicate 48 0 ++ List.replicate 48 0 ++ List.replicate 48 0 ++ List.replicate 48 0 ++ List.replicate 48 0 ++ List.replicate 48 0 ++ List.replicate 2 0 := by
    decide +kernel
  rw [crc16, List.foldl_append, start, cut]
  simp only [List.foldl_append, h0, h1, h2, h3, h4, h5, h6, h7, h8, h9, h10, h11, h12, h13, h14]
theorem test_zeros_record_is_valid : settingsValid (zerosFirst ++ zerosSecond ++ zerosThird) = true := by
  have body : ((zerosFirst ++ zerosSecond ++ zerosThird).drop 2).take 677 =
      [0x01, 0x02, 0xA2] ++ List.replicate 674 0 := by decide +kernel
  have check : be16 (0xAFE6#16).toNat = ((zerosFirst ++ zerosSecond ++ zerosThird).drop 679).take 2 := by
    decide +kernel
  have head : byteAt (zerosFirst ++ zerosSecond ++ zerosThird) 0 = 0x5A ∧
      byteAt (zerosFirst ++ zerosSecond ++ zerosThird) 1 = 0xC3 ∧
      byteAt (zerosFirst ++ zerosSecond ++ zerosThird) 2 = 0x01 ∧
      fieldAt (zerosFirst ++ zerosSecond ++ zerosThird) 3 2 = settingsContent := by decide +kernel
  simp only [settingsValid, crcBytes, body, test_zeros_crc, check, head, beq_self_eq_true, Bool.and_self]

/-- A part whose settings load has a READ of n bytes in flight. -/
def loading (parts : List (Option (List Byte))) (n : Nat) (phase : Phase) : State :=
  { readingAt (.settingsLoad parts) 0 n [] phase with boot := .settingsLoad }

/-- The load's clauses: a further READ, the last of a valid record, of one that is not valid, and of one that timed
out before, and a timeout first and last. -/
theorem test_witness_StoredSettingsLoadBack_reads :
    ((loading [] 256 .transfer).quiet ∧ (loading [none, none] 169 .readyWait).quiet ∧
      (loading [] 256 .transfer).port.headBegun = true ∧ (loading [] 256 .transfer).port.chosen = none ∧
      (loading [] 256 .transfer).port.inFlight = some ⟨.read 0 256, .link, .transfer, 100, false⟩) ∧
    (let s := loading [some zerosFirst, some zerosSecond] 169 .transfer;
      s.quiet ∧ (List.range 169).map (fun i =>
        Mem.read1 s.device.mem (0 + i) ^^^ (zerosThird.map (~~~·)).getD i 0) = zerosThird) ∧
    (after (.readComplete []) (loading [] 256 .transfer)).port.inFlight.map (·.op) = some (.read 256 256) ∧
    (after .readyTimeout (loading [none] 256 .readyWait)).port.items = [.settingsLoad [none, none]] ∧
    (after .readyTimeout (loading [none, none] 169 .readyWait)).boot = .done := by decide +kernel
/-- R189: a valid record is applied; one whose magic is wrong, or of which a READ timed out, leaves the defaults. -/
theorem test_valid_record_applies :
    (applySettings (zerosFirst ++ zerosSecond ++ zerosThird) ready).params.depth = 0 := by decide +kernel
theorem test_settings_load_leaves_an_invalid_record :
    (after (.readComplete []) (loading [some [], some []] 169 .transfer)).params.depth = 4 ∧
      (after (.readComplete []) (loading [some zerosFirst, none] 169 .transfer)).params.depth = 4 := by decide +kernel

end Sys2Proof.Tests
end

section
/-! PROOFS. Key sensing and stroke formation (chapter 1): the stroke former's results, CHANNEL_SET and
CHANNEL_QUERY. -/

namespace Sys2Proof.Machine

/-! ## The stroke former takes a result (R13 to R16) -/

/-- A result in IDLE (R14). -/
theorem takeResult_idle {f : StrokeFormer} (h : f.state = .idle) (result : List ChannelState) (guard now : Nat) :
    f.takeResult result guard now =
      if wentDown f.result result = 0 then { f with result := result }
      else { f with
        result := result, state := .chord, chord := wentDown f.result result
        downTime := f.jobClock, audioDown := f.audioCount } := by
  simp only [StrokeFormer.takeResult, h]

/-- A result in CHORD (R15). -/
theorem takeResult_chord {f : StrokeFormer} (h : f.state = .chord) (result : List ChannelState) (guard now : Nat) :
    f.takeResult result guard now =
      if downSet result = 0 then { f with
        result := result, chord := f.chord ||| wentDown f.result result
        state := .releasing, guardDue := some (now + guard) }
      else { f with result := result, chord := f.chord ||| wentDown f.result result } := by
  simp only [StrokeFormer.takeResult, h]

/-- A result in RELEASING: a roll goes back to CHORD (R16). -/
theorem takeResult_releasing {f : StrokeFormer} (h : f.state = .releasing) (result : List ChannelState)
    (guard now : Nat) :
    f.takeResult result guard now =
      if wentDown f.result result = 0 then { f with result := result }
      else { f with
        result := result, state := .chord, chord := f.chord ||| wentDown f.result result
        guardDue := none } := by
  simp only [StrokeFormer.takeResult, h]

/-- Whatever the chord does, the new result is held, and the counters that strokes are stamped from stay. -/
theorem takeResult_kept (f : StrokeFormer) (result : List ChannelState) (guard now : Nat) :
    (f.takeResult result guard now).result = result ∧
      (f.takeResult result guard now).jobClock = f.jobClock ∧
      (f.takeResult result guard now).audioCount = f.audioCount ∧
      (f.takeResult result guard now).audioSeen = f.audioSeen := by
  cases h : f.state with
  | idle => rw [takeResult_idle h]; split <;> exact ⟨rfl, rfl, rfl, rfl⟩
  | chord => rw [takeResult_chord h]; split <;> exact ⟨rfl, rfl, rfl, rfl⟩
  | releasing => rw [takeResult_releasing h]; split <;> exact ⟨rfl, rfl, rfl, rfl⟩

/-- Settles O17: each state of the chord state machine by its own equation, split on its condition. -/
theorem resultsFormChords : Obligations.ResultsFormChords := by
  intro f result guard now went t
  obtain ⟨hresult, hclock, hcount, hseen⟩ := takeResult_kept f result guard now
  refine ⟨hresult, hclock, hcount, hseen, ?idleUnchanged, ?idleBegins, ?chord, ?releasing⟩
  case idleUnchanged =>
    intro hidle hnone
    exact (takeResult_idle hidle ..).trans (if_pos hnone)
  case idleBegins =>
    intro hidle hdown
    rw [show t = _ from (takeResult_idle hidle result guard now).trans (if_neg hdown)]
    exact ⟨rfl, rfl, rfl, rfl, rfl⟩
  case chord =>
    intro hchord
    rw [show t = _ from takeResult_chord hchord result guard now]
    split
    case isTrue => exact ⟨rfl, rfl, rfl, rfl, rfl⟩
    case isFalse => exact ⟨rfl, rfl, rfl, hchord, rfl⟩
  case releasing =>
    intro hreleasing
    by_cases hnone : went = 0
    · have hchord : f.chord = f.chord ||| went := by simp [hnone]
      rw [if_pos hnone, show t = _ from (takeResult_releasing hreleasing result guard now).trans (if_pos hnone)]
      exact ⟨hchord, rfl, rfl, hreleasing, rfl⟩
    · rw [if_neg hnone, show t = _ from (takeResult_releasing hreleasing result guard now).trans (if_neg hnone)]
      exact ⟨rfl, rfl, rfl, rfl, rfl⟩

/-! ## CHANNEL_SET (R3, R11) -/

theorem exec_channelSet {tag : Byte} {payload : List Byte} {s : State} (h : s.serves tag)
    (hl : payload.length = 3) :
    exec (.channelSet tag payload) s =
      .next (askChannelSet ⟨kindChannelSet, tag⟩ payload (s.mapLink Link.withTaken)) :=
  congrArg Host.Outcome.next (takeRequest_serves h (by simp [hl]))

theorem boolOf_outOfRange {b : Byte} (h : 1 < b.toNat) : boolOf b = none := by
  have h0 : b ≠ 0 := by bv_omega
  have h1 : b ≠ 1 := by bv_omega
  rw [boolOf, if_neg h0, if_neg h1]

theorem boolOf_inRange {b : Byte} (h : b.toNat ≤ 1) : boolOf b = some (b == 1) := by
  have h01 : b = 0 ∨ b = 1 := by bv_omega
  rcases h01 with rfl | rfl <;> rfl

/-- A channel number or an enable out of its range is refused (R11). -/
theorem askChannelSet_refuses (r : Request) {ch enable : Byte} (down : Byte) (s : State)
    (h : 22 < ch.toNat ∨ 1 < enable.toNat) :
    askChannelSet r [ch, enable, down] s = answer r .badValue [] s := by
  by_cases he : 1 < enable.toNat
  · simp [askChannelSet, byteAt, boolOf_outOfRange he]
  · have hch : 22 < ch.toNat := h.resolve_right he
    simp [askChannelSet, byteAt, boolOf_inRange (Nat.le_of_not_lt he), hch]

/-- The channel named is set, and the down level applied is returned (R11). -/
theorem askChannelSet_sets (r : Request) {ch enable : Byte} (down : Byte) (s : State)
    (hch : ch.toNat ≤ 22) (he : enable.toNat ≤ 1) :
    askChannelSet r [ch, enable, down] s =
      let level := appliedDownLevel s.params.upLevel down.toNat
      answer r .ok (be8 level) (s.mapKeys fun k =>
        { k with channels := k.channels.modify ch.toNat fun c => c.set (enable == 1) level }) := by
  simp [askChannelSet, byteAt, boolOf_inRange he, Nat.not_lt.2 hch]

/-- A channel's record after CHANNEL_SET, field by field (R11). -/
theorem Channel.set_eq (c : Channel) (on : Bool) (level : Nat) :
    c.set on level = { c with
      enable := on, downLevel := level
      state := if c.enable = on then c.state else if on then .up else .disabled
      runLength := if !c.enable && on then 0 else c.runLength
      dwell := if c.enable = on then c.dwell else 0 } := by
  cases hc : c.enable <;> cases on <;> simp [Channel.set, hc]

/-- Settles O18: taken, the request is refused, or sets its channel and is answered with the level. -/
theorem channelSetStoresLevelAndEnable : Obligations.ChannelSetStoresLevelAndEnable := by
  intro tag ch enable down s hs level on
  rw [exec_channelSet hs rfl]
  refine ⟨fun hbad => ?_, fun hch he => ?_⟩
  · rw [askChannelSet_refuses _ down _ hbad, answer_taken]
    rfl
  · rw [askChannelSet_sets _ down _ hch he, answer_eq]
    simp only [Channel.set_eq]
    rfl

/-! ## CHANNEL_QUERY (R12) -/

theorem exec_channelQuery {tag : Byte} {s : State} (h : s.serves tag) :
    exec (.channelQuery tag []) s =
      .next (askChannelQuery ⟨kindChannelQuery, tag⟩ [] (s.mapLink Link.withTaken)) :=
  congrArg Host.Outcome.next (takeRequest_serves h rfl)

/-- Settles O20: taken, the request is answered at once with the fields of every channel. -/
theorem channelQueryReportsTheTable : Obligations.ChannelQueryReportsTheTable := by
  intro tag s hs
  rw [exec_channelQuery hs, askChannelQuery, answer_taken]
  rfl

end Sys2Proof.Machine
end

section
/-! PROOFS. Dictionary layers (chapter 3): LAYER_QUERY. -/

namespace Sys2Proof.Machine

/-! ## LAYER_QUERY (R44) -/

/-- A layer's fields in the reply are its whole record, in the order of R181. -/
theorem Layer.fields_eq (l : Layer) :
    l.fields = be16 l.base ++ be16 l.count ++
      [boolCode l.enable, boolCode l.valid, boolCode l.checkPending, BitVec.ofNat 8 l.bucketBits] ++
      be32 l.entryCount ++ be32 l.imageLength ++ be32 l.faultCount := by
  simp [Layer.fields, be8]

theorem exec_layerQuery_booting {tag : Byte} {s : State} (h : s.takes tag) (hb : s.job.state = .booting) :
    exec (.layerQuery tag []) s =
      .next (answer ⟨kindLayerQuery, tag⟩ .busy [] (s.mapLink Link.withTaken)) :=
  congrArg Host.Outcome.next (takeRequest_booting h hb (by decide))

theorem exec_layerQuery {tag : Byte} {s : State} (h : s.serves tag) :
    exec (.layerQuery tag []) s =
      .next (askLayerQuery ⟨kindLayerQuery, tag⟩ [] (s.mapLink Link.withTaken)) :=
  congrArg Host.Outcome.next (takeRequest_serves h rfl)

/-- Settles O24: in BOOTING the link controller answers BUSY; in every other job state the query's owner answers at
once with the overlay's count and each layer's record. -/
theorem layerQueryReportsTheLayers : Obligations.LayerQueryReportsTheLayers := by
  intro tag s htakes
  refine ⟨fun hbooting => ?busy, fun hserving => ?reported⟩
  case busy =>
    rw [exec_layerQuery_booting htakes hbooting, answer_taken]
    rfl
  case reported =>
    rw [exec_layerQuery ⟨htakes, hserving⟩, askLayerQuery, answer_taken]
    simp only [Layer.fields_eq]
    rfl

end Sys2Proof.Machine
end

section
/-! PROOFS. The host link (chapter 11): IDENTIFY and STATUS. -/

namespace Sys2Proof.Machine

/-! ## IDENTIFY and STATUS (R187) -/

theorem exec_identify {tag : Byte} {s : State} (h : s.takes tag) :
    exec (.identify tag []) s =
      .next (askIdentify ⟨kindIdentify, tag⟩ [] (s.mapLink Link.withTaken)) :=
  congrArg Host.Outcome.next (takeRequest_always h (.inl rfl) rfl)

theorem exec_status {tag : Byte} {s : State} (h : s.takes tag) :
    exec (.status tag []) s =
      .next (askStatus ⟨kindStatus, tag⟩ [] (s.mapLink Link.withTaken)) :=
  congrArg Host.Outcome.next (takeRequest_always h (.inr rfl) rfl)

/-- The codes and the capacities of R187, byte by byte in the order of R181. -/
theorem identifyFields_eq :
    identifyFields = [0x57, 0x42, 0x07, 0x40, 0x01, 23, 64, 0x02, 0x00, 4, 24, 64, 5, 48, 8, 240] := by
  decide

/-- The cause's code is FAILED's while memory failed is set in IDLE (R137). -/
theorem journalCauseCode_statusCause (j : Journal) :
    journalCauseCode j.statusCause =
      if j.mode = .idle ∧ j.memoryFailed = true then 0x01 else journalCauseCode j.cause :=
  apply_ite journalCauseCode _ _ _

/-- Taking a request changes none of the fields that STATUS reports: the framer and the number of outstanding
requests are not among them. -/
theorem statusFields_withTaken (s : State) : statusFields (s.mapLink Link.withTaken) = statusFields s := rfl

/-- Settles O57: both requests reach their owner in every job state, and the owner answers at once. -/
theorem identifyAndStatusReport : Obligations.IdentifyAndStatusReport := by
  intro tag s htakes
  refine ⟨?identify, ?status⟩
  case identify =>
    rw [exec_identify htakes, askIdentify, answer_taken, identifyFields_eq]
    rfl
  case status =>
    rw [exec_status htakes, askStatus, answer_taken, statusFields_withTaken, statusFields,
      journalCauseCode_statusCause]
    -- What is left is how the byte lists are grouped.
    simp [State.answering, be8, replyCodeByte, kindStatus]

end Sys2Proof.Machine
end

section
/-! PROOFS. What a command does to the parts around the blocks, said once: the requests by their owners, the events
by the part they touch. From it come the statements about the machine as a whole and the invariants. -/

namespace Sys2Proof.Machine

/-- A choice between two values goes by what its condition says. -/
theorem ite_cond_congr {α : Type} {c d : Prop} [Decidable c] [Decidable d] (h : c ↔ d) {a b : α} :
    (if c then a else b) = if d then a else b := by
  simp only [h]

/-! ## Requests and their owners -/

/-- The owners of the requests that change nothing outside their blocks. -/
def plainOwners : List (Request → List Byte → State → State) :=
  [askIdentify, askStatus, askGetParam, askSetParamUnknown, askChannelQuery, askLayerSet, askLayerQuery,
    askStoreSettings, askOverlayQuery, askProfileSet, askPortSet, askPortQuery, askJobOpen, askJobClose,
    askJobAbort, askStrike, askMark, askJournalSeek, askJournalRead, askJournalErase, askImageRead, askImageWrite,
    askImageErase, askConditionQuery, askConditionClear]

/-- The owners of the SET_PARAM rows that store a parameter and leave the channel table alone. -/
def storeOwners : List (Request → List Byte → State → State) :=
  [askSetDebounceTime, askSetStuckLimit, askSetReleaseGuard, askSetStrokeCopy, askSetCorrectionDepth,
    askSetResolvePause, askSetTriggerLevel, askSetGatherTime, askSetJournalRegion, askSetLowThreshold,
    askSetMarkTableEntry, askSetReportMask]

/-- The owners of the requests that change the channel table or the overlay. -/
def tableOwners : List (Request → List Byte → State → State) :=
  [askSetUpLevel, askChannelSet, askFaultClear, askDefine, askUndefine, askOverlayClear]

/-- The owners of all requests. -/
def owners : List (Request → List Byte → State → State) := plainOwners ++ storeOwners ++ tableOwners

/-- A request's row is the taking of its frame, at one of the owners (R180). Where its payload has one length, that is
checked on the whole payload. -/
theorem exec_request {c : Instr} {kind tag : Byte} {payload : List Byte}
    (h : requestOf c = some (kind, tag, payload)) (s : State) :
    ∃ value fixed, ∃ owner ∈ owners, exec c s = .next (takeRequest kind tag value fixed owner s) ∧
      ∀ n, (kind, n) ∈ fixedLengths → fixed = some n ∧ value = payload := by
  cases c <;> simp only [requestOf, Option.some.injEq, Prod.mk.injEq, reduceCtorEq] at h <;>
    obtain ⟨rfl, rfl, rfl⟩ := h <;>
    exact ⟨_, _, _, by simp [owners, plainOwners, storeOwners, tableOwners], rfl,
      by simp +decide [fixedLengths]⟩


/-- An owner of the first kind changes nothing outside its block. -/
theorem plainOwner_outside {owner : Request → List Byte → State → State} (h : owner ∈ plainOwners) (r : Request)
    (p : List Byte) (s : State) : (owner r p s).outside = s.outside := by
  simp only [plainOwners, List.mem_cons, List.not_mem_nil, or_false] at h
  rcases h with rfl | rfl | rfl | rfl | rfl | rfl | rfl | rfl | rfl | rfl | rfl | rfl | rfl | rfl | rfl | rfl |
    rfl | rfl | rfl | rfl | rfl | rfl | rfl | rfl | rfl <;> simp

/-- A parameter of one byte is stored, or nothing is: what both leave of a part, the request leaves. -/
theorem setByte_keeps {α : Type} (g : State → α) (hg : ∀ s t : State, t.base = s.base → g t = g s) (r : Request)
    (i : Byte) (v : List Byte) (f : Nat → Nat) (store : Nat → State → State) (s : State)
    (h : ∀ n, g (store n s) = g s) : g (setByte r i v f store s) = g s := by
  rcases setByte_outside r i v f store s with e | ⟨n, e⟩
  · exact hg _ _ (base_of_outside e)
  · exact (hg _ _ (base_of_outside e)).trans (h n)

theorem applyDepth_base (n : Nat) (s : State) :
    (applyDepth n s).base = (s.mapParams fun p => { p with depth := n }).base := by
  simp only [applyDepth]
  split
  · exact base_of_outside (by simp)
  · rfl

/-- The channel table, the up level and the overlay: what the invariants of both tables are about. -/
def State.tables (s : State) : Keys × Nat × List OverlayEntry := (s.keys, s.params.upLevel, s.dict.overlay)

theorem tables_of_base {s t : State} (h : t.base = s.base) : t.tables = s.tables := by
  obtain ⟨-, hk, hp, ho⟩ := base_eq.1 h
  simp [State.tables, hk, hp, ho]

@[simp] theorem answer_params (r : Request) (c : ReplyCode) (f : List Byte) (s : State) :
    (answer r c f s).params = s.params := params_out (answer_outside ..)
@[simp] theorem answerParam_params (r : Request) (i : Byte) (v : List Byte) (s : State) :
    (answerParam r i v s).params = s.params := params_out (answerParam_outside ..)
@[simp] theorem testAttn_params (s : State) : (testAttn s).params = s.params := rfl
@[simp] theorem testJournalLow_params (s : State) : (testJournalLow s).params = s.params :=
  params_out (testJournalLow_outside s)
@[simp] theorem runBlocks_params (s : State) : (runBlocks s).params = s.params := params_out (runBlocks_outside s)
@[simp] theorem beginScan_params (l : List ScanReply) (s : State) : (beginScan l s).params = s.params :=
  params_out (beginScan_outside l s)
@[simp] theorem notifyUnmasked_params (old new : Byte) (cs : List Condition) (s : State) :
    (notifyUnmasked old new cs s).params = s.params := params_out (notifyUnmasked_outside ..)

theorem tables_par {s t : State} (h : ∃ p, t.outside = (s.mapParams fun _ => p).outside)
    (hu : t.params.upLevel = s.params.upLevel) : t.tables = s.tables := by
  simp [State.tables, keys_par h, ov_par h, hu]

/-- A SET_PARAM row other than SET_UP_LEVEL changes the parameter store, and nothing else outside its block. -/
theorem storeOwner_outside {owner : Request → List Byte → State → State} (h : owner ∈ storeOwners) (r : Request)
    (v : List Byte) (s : State) : ∃ p, (owner r v s).outside = (s.mapParams fun _ => p).outside := by
  simp only [storeOwners, List.mem_cons, List.not_mem_nil, or_false] at h
  rcases h with rfl | rfl | rfl | rfl | rfl | rfl | rfl | rfl | rfl | rfl | rfl | rfl
  · exact askSetDebounceTime_outside r v s
  · exact askSetStuckLimit_outside r v s
  · exact askSetReleaseGuard_outside r v s
  · exact askSetStrokeCopy_outside r v s
  · exact askSetCorrectionDepth_outside r v s
  · exact askSetResolvePause_outside r v s
  · exact askSetTriggerLevel_outside r v s
  · exact askSetGatherTime_outside r v s
  · exact askSetJournalRegion_outside r v s
  · exact askSetLowThreshold_outside r v s
  · exact askSetMarkTableEntry_outside r v s
  · exact askSetReportMask_outside r v s

/-- A request to a table changes the parameter store, the channel table and the overlay at most. -/
theorem tableOwner_outside {owner : Request → List Byte → State → State} (h : owner ∈ tableOwners) (r : Request)
    (p : List Byte) (s : State) : ∃ q k o, (owner r p s).outside =
      State.outside { s with params := q, keys := k, dict := { s.dict with overlay := o } } := by
  simp only [tableOwners, List.mem_cons, List.not_mem_nil, or_false] at h
  rcases h with rfl | rfl | rfl | rfl | rfl | rfl
  · obtain ⟨q, k, e⟩ := askSetUpLevel_outside r p s
    exact ⟨q, k, s.dict.overlay, e⟩
  · obtain ⟨k, e⟩ := askChannelSet_outside r p s
    exact ⟨s.params, k, s.dict.overlay, e⟩
  · obtain ⟨k, e⟩ := askFaultClear_outside r p s
    exact ⟨s.params, k, s.dict.overlay, e⟩
  · obtain ⟨o, e⟩ := askDefine_outside r p s
    exact ⟨s.params, s.keys, o, e⟩
  · obtain ⟨o, e⟩ := askUndefine_outside r p s
    exact ⟨s.params, s.keys, o, e⟩
  · obtain ⟨o, e⟩ := askOverlayClear_outside r p s
    exact ⟨s.params, s.keys, o, e⟩

/-- No request's owner changes the environment or the count of outstanding requests. -/
theorem owner_kept {owner : Request → List Byte → State → State} (h : owner ∈ owners) (r : Request)
    (p : List Byte) (s : State) :
    (owner r p s).env = s.env ∧ (owner r p s).link.outstanding = s.link.outstanding := by
  simp only [owners, List.mem_append] at h
  rcases h with (h | h) | h
  · have e := plainOwner_outside h r p s
    exact ⟨env_of_outside e, outstanding_of_outside e⟩
  · obtain ⟨q, e⟩ := storeOwner_outside h r p s
    exact ⟨env_of_outside (s := s.mapParams fun _ => q) e,
      outstanding_of_outside (s := s.mapParams fun _ => q) e⟩
  · obtain ⟨q, k, o, e⟩ := tableOwner_outside h r p s
    exact ⟨(env_of_outside e).trans rfl, (outstanding_of_outside e).trans rfl⟩

/-- A SET_PARAM row other than SET_UP_LEVEL leaves the channel table, the up level and the overlay alone. -/
theorem storeOwner_tables {owner : Request → List Byte → State → State} (h : owner ∈ storeOwners) (r : Request)
    (v : List Byte) (s : State) : (owner r v s).tables = s.tables := by
  have hset := setByte_keeps (fun s => s.params.upLevel) (fun s t h => by rw [(base_eq.1 h).2.2.1]) r
  simp only [storeOwners, List.mem_cons, List.not_mem_nil, or_false] at h
  rcases h with rfl | rfl | rfl | rfl | rfl | rfl | rfl | rfl | rfl | rfl | rfl | rfl
  · exact tables_par (askSetDebounceTime_outside r v s) (hset _ _ _ _ _ fun _ => rfl)
  · exact tables_par (askSetStuckLimit_outside r v s) (by simp only [askSetStuckLimit]; split <;> simp)
  · exact tables_par (askSetReleaseGuard_outside r v s) (hset _ _ _ _ _ fun _ => rfl)
  · exact tables_par (askSetStrokeCopy_outside r v s) (by simp only [askSetStrokeCopy]; (repeat' split) <;> simp)
  · refine tables_par (askSetCorrectionDepth_outside r v s) ?_
    rw [askSetCorrectionDepth, runBlocks_params]
    exact hset _ _ _ _ _ fun n => by rw [(base_eq.1 (applyDepth_base n s)).2.2.1]; rfl
  · exact tables_par (askSetResolvePause_outside r v s) (by simp only [askSetResolvePause]; split <;> simp)
  · exact tables_par (askSetTriggerLevel_outside r v s) (by simp only [askSetTriggerLevel]; (repeat' split) <;> simp)
  · exact tables_par (askSetGatherTime_outside r v s) (hset _ _ _ _ _ fun _ => rfl)
  · exact tables_par (askSetJournalRegion_outside r v s)
      (by simp only [askSetJournalRegion, storeRegion]; (repeat' split) <;> simp)
  · exact tables_par (askSetLowThreshold_outside r v s) (hset _ _ _ _ _ fun _ => by simp)
  · exact tables_par (askSetMarkTableEntry_outside r v s)
      (by simp only [askSetMarkTableEntry, storeMark]; (repeat' split) <;> simp)
  · exact tables_par (askSetReportMask_outside r v s) (by simp only [askSetReportMask]; (repeat' split) <;> simp)

/-! ## Events -/

/-- The commands during which the memory device may change (R159, R161, R162). -/
def runsDevice (c : Instr) : Prop :=
  c = .startUp ∨ c = .startUpDeviceReady ∨ c = .readyAnswered ∨ c = .programComplete ∨ c = .eraseComplete ∨
    c = .completionTimeout

/-- The commands that are an evaluation of the keys. -/
def evaluates (c : Instr) : Prop :=
  (∃ l, c = .evaluation l) ∨ (∃ i l, c = .debounceHeld i l) ∨ ∃ i l, c = .stuckLimitReached i l

/-- What the memory device may become within a command: as it was, or, in a command that runs it, after work cut off
before, after an operation that finished, or with one cut off. -/
inductive DeviceChange (c : Instr) (d : Device) : Device → Prop
  | same : DeviceChange c d d
  | ready (runs : runsDevice c) : DeviceChange c d d.becomeReady
  | finished (runs : runsDevice c) (op : MemOp) : DeviceChange c d (d.finish op)
  | cut (runs : runsDevice c) (op : MemOp) : DeviceChange c d (d.cutOff op)

/-- Everything that an event other than START_UP can do to the parts around the blocks: a change of the device, with
the settings that the settings load has read or without, an evaluation's channel table, or a sample's pins. -/
inductive EventChange (c : Instr) (s t : State) : Prop
  | device (d : Device) (change : DeviceChange c s.device d) (base : t.base = State.base { s with device := d })
  | settings (d : Device) (change : DeviceChange c s.device d) (bytes : List Byte)
      (item : ∃ g, s.port.items.head? = some (.settingsLoad g))
      (base : t.base = (applySettings bytes { s with device := d }).base)
  | evaluated (levels : Levels) (event : evaluates c) (base : t.base = (evaluateKeys levels s).base)
  | sampled (lines : Presence) (base : t.base = State.base { s with presence := lines })

/-- An event that leaves the parts around the blocks alone. -/
theorem EventChange.kept {c : Instr} {s t : State} (h : t.base = s.base) : EventChange c s t :=
  .device s.device .same h

/-- What the settings load leaves of the parts around the blocks (R189): as they were, or as a record gives them. -/
theorem settingsLoadOutcome_base (g : List (Option (List Byte))) (o : OpOutcome) (s : State) :
    (settingsLoadOutcome g o s).base = s.base ∨
      ∃ bytes, (settingsLoadOutcome g o s).base = (applySettings bytes s).base := by
  unfold settingsLoadOutcome
  dsimp only
  split
  · exact .inl (base_of_outside (by simp))
  · unfold settingsLoaded
    rw [base_of_outside (startUpScan_outside _), base_of_outside (portsTakeStates_outside _),
      base_of_outside (setBoot_outside _ _)]
    split
    case h_1 bytes _ =>
      by_cases hv : settingsValid bytes = true
      · exact .inr ⟨bytes, by rw [if_pos hv]; rfl⟩
      · exact .inl (by rw [if_neg hv]; rfl)
    case h_2 => exact .inl rfl

/-- What the end of an operation leaves of the parts around the blocks (R161). -/
theorem operationEnds_change (f : InFlight) (o : OpOutcome) (s : State) :
    (operationEnds f o s).base = s.base ∨
      (∃ g, s.port.items.head? = some (.settingsLoad g)) ∧
        ∃ bytes, (operationEnds f o s).base = (applySettings bytes s).base := by
  by_cases hitem : ∃ g, s.port.items.head? = some (.settingsLoad g)
  case neg => exact .inl (operationEnds_base f o s fun g hg => hitem ⟨g, hg⟩)
  obtain ⟨g, hg⟩ := hitem
  unfold operationEnds
  dsimp only
  split
  · exact .inl rfl
  · split
    · exact .inl (base_of_outside (journalOutcome_outside _ _))
    · exact .inl (translationOutcome_base _ _)
    · obtain ⟨rest, hrest⟩ := List.head?_eq_some_iff.1 hg
      have hlink : linkOutcome o (freeSlot s) = settingsLoadOutcome g o (freeSlot s) := by
        simp only [linkOutcome, freeSlot, State.mapPort_port, hrest]
        rfl
      rw [hlink]
      exact (settingsLoadOutcome_base g o (freeSlot s)).imp id fun h => ⟨⟨g, hg⟩, h⟩

/-- An operation that ends within a command, after the device may have changed (R161, R162). -/
theorem EventChange.operationEnds {c : Instr} {s u : State} {d : Device} (f : InFlight) (o : OpOutcome)
    (hd : DeviceChange c s.device d) (hu : u.base = State.base { s with device := d })
    (hi : u.port.items = s.port.items) : EventChange c s (runBlocks (operationEnds f o u)) := by
  have hset {bytes : List Byte} : (applySettings bytes u).base = (applySettings bytes { s with device := d }).base := by
    obtain ⟨he, -, -, ho⟩ := base_eq.1 hu
    exact base_eq.2 ⟨he, rfl, rfl, ho⟩
  rcases operationEnds_change f o u with h | ⟨hitem, bytes, h⟩
  · exact .device d hd ((runBlocks_base _).trans (h.trans hu))
  · exact .settings d hd bytes (hi ▸ hitem) ((runBlocks_base _).trans (h.trans hset))

theorem EventChange.timesOut {c : Instr} {s u : State} {d : Device} (f : InFlight)
    (hd : DeviceChange c s.device d) (hu : u.base = State.base { s with device := d })
    (hi : u.port.items = s.port.items) : EventChange c s (runBlocks (operationTimesOut f u)) :=
  .operationEnds f .timeout hd ((countMemoryFault_base u).trans hu) (by rw [countMemoryFault_link]; exact hi)

theorem EventChange.evaluation {c : Instr} {s : State} (levels : Levels) (h : evaluates c) :
    EventChange c s (runEvaluation levels s) := by
  unfold runEvaluation Machine.evaluation
  split
  · exact .evaluated levels h ((runBlocks_base _).trans (base_of_outside (handResult_outside _)))
  · exact .kept (runBlocks_base s)

theorem departHead_outstanding (m : Message) (s : State) :
    (departHead m s).link.outstanding ≤ s.link.outstanding := by
  simp only [departHead]
  rw [outstanding_of_outside (testAttn_outside _)]
  split
  · exact Nat.sub_le _ _
  · rw [outstanding_of_outside (noticeSpaceFreed_outside _)]
    exact Nat.le_refl _

/-- The taking of a byte frame is the taking of a request at one of the owners, or of a frame of no request kind. -/
theorem takeFrameOf_cases (kind tag : Byte) (payload : List Byte) (s : State) :
    (∃ k value fixed, ∃ owner ∈ owners, takeFrameOf kind tag payload s = takeRequest k tag value fixed owner s) ∨
      takeFrameOf kind tag payload s = takeBadKind kind tag s := by
  have of {k value fixed owner} (h : owner ∈ owners) :
      ∃ k' value' fixed', ∃ owner' ∈ owners,
        takeRequest k tag value fixed owner s = takeRequest k' tag value' fixed' owner' s :=
    ⟨k, value, fixed, owner, h, rfl⟩
  unfold takeFrameOf
  split
  case h_3 =>
    left
    unfold takeSetParam
    split
    · exact of (by simp [owners, plainOwners])
    · split <;> exact of (by simp [owners, plainOwners, storeOwners, tableOwners])
  case h_31 => exact .inr rfl
  all_goals exact .inl (of (by simp [owners, plainOwners, storeOwners, tableOwners]))

theorem runSample_base (lines : Presence) (s : State) :
    (runSample lines s).base = State.base { s with presence := lines } := by
  unfold runSample
  dsimp only
  split
  · exact base_of_outside (sampleLines_outside ..)
  · rfl

theorem takeBadKind_base (kind tag : Byte) (s : State) : (takeBadKind kind tag s).base = s.base := by
  simp only [takeBadKind]
  split
  · exact countLinkFault_base _
  · exact (base_of_outside (answer_outside ..)).trans rfl

/-- What an event other than START_UP and a received byte does to the parts around the blocks. -/
theorem exec_event {c : Instr} {s : State} (hr : requestOf c = none) (hu : c ≠ .startUp)
    (hf : ∀ b, c ≠ .frameByteReceived b) : ∃ t, exec c s = .next t ∧ EventChange c s t := by
  have stays : EventChange c s s := .kept rfl
  have kept {t : State} (h : t.outside = s.outside) : EventChange c s t := .kept (base_of_outside h)
  have ite {p : Prop} {_ : Decidable p} {t : State} (h : EventChange c s t) :
      ∃ u, (if p then .next t else .next s : Result) = .next u ∧ EventChange c s u := by
    split
    · exact ⟨t, rfl, h⟩
    · exact ⟨s, rfl, stays⟩
  cases c <;> simp only [requestOf, reduceCtorEq] at hr
  case startUp => exact absurd rfl hu
  case frameByteReceived b => exact absurd rfl (hf b)
  case startUpDeviceReady => exact ite (.device _ (.ready (by simp [runsDevice])) (runBlocks_base _))
  case startUpWaitTimeout =>
    exact ite (.kept ((runBlocks_base _).trans
      ((base_of_outside (pushItem_outside _ _)).trans (countMemoryFault_base _))))
  case evaluation l => exact ⟨_, rfl, .evaluation l (by simp [evaluates])⟩
  case debounceHeld i l =>
    simp only [exec, execDebounceHeld]
    (repeat' split)
    · exact ⟨s, rfl, stays⟩
    · exact ⟨_, rfl, .evaluation l (by simp [evaluates])⟩
    · exact ⟨s, rfl, stays⟩
  case stuckLimitReached i l =>
    simp only [exec, execStuckLimitReached]
    split
    · exact ite (.evaluation l (by simp [evaluates]))
    · exact ⟨s, rfl, stays⟩
  case releaseGuardExpiry => exact ite (kept (by simp))
  case afrmEdge => exact ⟨_, rfl, kept rfl⟩
  case forcedResolutionExpiry => exact ite (kept (by simp))
  case lineSenseSample l => exact ⟨_, rfl, .sampled l (runSample_base l s)⟩
  case lineGained i l => exact ite (.sampled l (runSample_base l s))
  case lineLost i l => exact ite (.sampled l (runSample_base l s))
  case pacingExpiry => exact ⟨_, rfl, kept (pace_outside s)⟩
  case frameCompletion i => exact ite (kept (by simp))
  case readyAnswered =>
    simp only [exec, execReadyAnswered]
    split
    · exact ⟨s, rfl, stays⟩
    · exact ite (.device _ (.ready (by simp [runsDevice])) rfl)
  case transferEnd =>
    simp only [exec, execTransferEnd]
    split
    · exact ⟨s, rfl, stays⟩
    · exact ite (kept rfl)
  case readComplete flips =>
    simp only [exec, execReadComplete]
    (repeat' split)
    · exact ⟨s, rfl, stays⟩
    · exact ⟨_, rfl, .operationEnds _ _ .same rfl rfl⟩
    · exact ⟨s, rfl, stays⟩
  case programComplete =>
    simp only [exec, execProgramComplete]
    split
    · exact ⟨s, rfl, stays⟩
    · exact ite (.operationEnds _ _ (.finished (by simp [runsDevice]) _) rfl rfl)
  case eraseComplete =>
    simp only [exec, execEraseComplete]
    split
    · exact ⟨s, rfl, stays⟩
    · exact ite (.operationEnds _ _ (.finished (by simp [runsDevice]) _) rfl rfl)
  case readyTimeout =>
    simp only [exec, execReadyTimeout]
    split
    · exact ⟨s, rfl, stays⟩
    · exact ite (.timesOut _ .same rfl rfl)
  case completionTimeout =>
    simp only [exec, execCompletionTimeout]
    split
    · exact ⟨s, rfl, stays⟩
    · exact ite (.timesOut _ (.cut (by simp [runsDevice]) _) rfl rfl)
  case frameDiscarded => exact ⟨_, rfl, .kept (countLinkFault_base _)⟩
  case requestDiscarded tag => exact ite (.kept (countLinkFault_base _))
  case badKindRequest kind tag => exact ⟨_, rfl, .kept (takeBadKind_base _ _ _)⟩
  case linkResync => exact ⟨_, rfl, kept rfl⟩
  case messageDeparture =>
    simp only [exec, execMessageDeparture]
    split
    · exact ⟨s, rfl, stays⟩
    · exact ⟨_, rfl, .kept (departHead_base _ _)⟩
  case gatherTimeExpiry => exact ⟨_, rfl, kept rfl⟩
  case byteClockedOut =>
    simp only [exec, execByteClockedOut]
    (repeat' split)
    · exact ⟨_, rfl, kept rfl⟩
    · exact ⟨_, rfl, kept rfl⟩
    · exact ⟨_, rfl, .kept (departHead_base _ _)⟩

end Sys2Proof.Machine
end

section
/-! PROOFS. The machine as a whole: what every command leaves alone, and the invariants that every step keeps. -/

namespace Sys2Proof.Machine

/-! ## The invariants, packaged once -/

/-- What the invariants are about: the device, the channel table with the up level, and the overlay. -/
def State.vital (s : State) : Device × Keys × Nat × List OverlayEntry := (s.device, s.tables)

theorem vital_eq {s t : State} : t.vital = s.vital ↔ t.device = s.device ∧ t.keys = s.keys ∧
    t.params.upLevel = s.params.upLevel ∧ t.dict.overlay = s.dict.overlay := by
  simp [State.vital, State.tables]

theorem vital_of_base {s t : State} (h : t.base = s.base) : t.vital = s.vital := by
  obtain ⟨he, hk, hp, ho⟩ := base_eq.1 h
  exact vital_eq.2 ⟨(env_eq.1 he).1, hk, by rw [hp], ho⟩

/-- A property of the vital parts that START_UP, a change of the device, a settings record, an evaluation and the
requests to the tables keep. -/
structure Invariant (P : State → Prop) : Prop where
  vital : ∀ {s t : State}, t.vital = s.vital → P s → P t
  startUp : ∀ s, P s → P (State.startUp (deviceAtReset s) s.presence s.now s.pending)
  device : ∀ {c s d}, DeviceChange c s.device d → P s → P { s with device := d }
  settings : ∀ bytes s, P s → P (applySettings bytes s)
  evaluated : ∀ levels s, P s → P (evaluateKeys levels s)
  tables : ∀ owner ∈ tableOwners, ∀ r p s, P s → P (owner r p s)

section
variable {P : State → Prop} (hP : Invariant P)
include hP

theorem Invariant.base {s t : State} (h : t.base = s.base) : P s → P t := hP.vital (vital_of_base h)

theorem Invariant.owner {owner : Request → List Byte → State → State} (h : owner ∈ owners) (r : Request)
    (p : List Byte) (s : State) (hs : P s) : P (owner r p s) := by
  simp only [owners, List.mem_append] at h
  rcases h with (h | h) | h
  · exact hP.base (base_of_outside (plainOwner_outside h r p s)) hs
  · refine hP.vital ?_ hs
    rw [State.vital, storeOwner_tables h, (env_eq.1 (owner_kept (by simp [owners, h]) r p s).1).1]
    rfl
  · exact hP.tables owner h r p s hs

theorem Invariant.takeRequest {owner : Request → List Byte → State → State} (h : owner ∈ owners)
    (kind tag : Byte) (payload : List Byte) (fixed : Option Nat) (s : State) (hs : P s) :
    P (takeRequest kind tag payload fixed owner s) := by
  have htaken : P (s.mapLink Link.withTaken) := hP.base (s := s) rfl hs
  rcases takeRequest_cases kind tag payload fixed owner s with e | e | e | e <;> rw [e]
  · exact hP.base (s := s) (countLinkFault_base (endFrame s)) hs
  · exact hP.base (base_of_outside (answer_outside ..)) htaken
  · exact hP.base (base_of_outside (answer_outside ..)) htaken
  · exact hP.owner h _ _ _ htaken

theorem Invariant.frameTaken (taken : List Byte) (s : State) (hs : P s) : P (frameTaken taken s) := by
  have hlost : P (countLinkFault (endFrame s)) := hP.base (s := s) (countLinkFault_base (endFrame s)) hs
  unfold Machine.frameTaken
  dsimp only
  split
  · exact hlost
  · split
    · exact hP.base (s := s) rfl hs
    · split
      · rcases takeFrameOf_cases (byteAt taken 1) (byteAt taken 2)
          ((taken.take ((byteAt taken 0).toNat + 3)).drop 3) s with ⟨k, value, fixed, owner, howner, e⟩ | e <;> rw [e]
        · exact hP.takeRequest howner _ _ _ _ s hs
        · exact hP.base (takeBadKind_base ..) hs
      · exact hlost

theorem Invariant.event {c : Instr} {s t : State} (h : EventChange c s t) (hs : P s) : P t := by
  cases h with
  | device d change base => exact hP.base base (hP.device change hs)
  | settings d change bytes item base => exact hP.base base (hP.settings bytes _ (hP.device change hs))
  | evaluated levels event base => exact hP.base base (hP.evaluated levels s hs)
  | sampled lines base => exact hP.base base (hP.vital (s := s) rfl hs)

/-- Every command keeps an invariant. -/
theorem Invariant.exec {c : Instr} {s t : State} (h : exec c s = .next t) (hs : P s) : P t := by
  cases hr : requestOf c with
  | some request =>
    obtain ⟨value, fixed, owner, howner, e, -⟩ := exec_request (kind := request.1) (tag := request.2.1) hr s
    cases h.symm.trans e
    exact hP.takeRequest howner _ _ _ _ s hs
  | none =>
    by_cases hu : c = .startUp
    · subst hu
      cases h
      exact hP.startUp s hs
    · by_cases hf : ∃ b, c = .frameByteReceived b
      · obtain ⟨b, rfl⟩ := hf
        simp only [Machine.exec, execFrameByteReceived] at h
        split at h
        · split at h <;> cases h
          · exact hP.base (s := s) rfl hs
          · exact hs
        · cases h
          exact hP.frameTaken _ s hs
      · obtain ⟨u, e, hchange⟩ := exec_event hr hu (fun b hb => hf ⟨b, hb⟩) (s := s)
        cases h.symm.trans e
        exact hP.event hchange hs

/-- Every step keeps an invariant. -/
theorem Invariant.step {s t : State} (hs : P s) (h : step s = .next t) : P t := by
  unfold Machine.step at h
  split at h
  · cases h
    exact hP.vital (s := s) rfl hs
  · exact hP.exec h (hP.vital (s := s) rfl hs)

end

/-! ## The external memory (R159) -/

theorem DeviceChange.wf {c : Instr} {d e : Device} (h : DeviceChange c d e) (hd : Mem.wf d.mem = true) :
    Mem.wf e.mem = true := by
  cases h with
  | same => exact hd
  | ready => exact Device.becomeReady_wf d hd
  | finished _ op => exact Device.finish_wf d op hd
  | cut _ op => exact Device.cutOff_wf d op hd

theorem deviceAtReset_change (s : State) : DeviceChange .startUp s.device (deviceAtReset s) := by
  unfold deviceAtReset
  split
  · split
    · exact .cut (.inl rfl) _
    · exact .same
  · exact .same

theorem tableOwner_device {owner : Request → List Byte → State → State} (h : owner ∈ tableOwners) (r : Request)
    (p : List Byte) (s : State) : (owner r p s).device = s.device :=
  (env_eq.1 (owner_kept (by simp [owners, h]) r p s).1).1

theorem memoryOk_invariant : Invariant State.memoryOk where
  vital h hs := by rw [State.memoryOk, (vital_eq.1 h).1]; exact hs
  startUp s hs := (deviceAtReset_change s).wf hs
  device change hs := change.wf hs
  settings _ _ hs := hs
  evaluated levels s hs := by
    obtain ⟨k, e⟩ := evaluateKeys_outside levels s
    rw [State.memoryOk, (env_eq.1 (env_keys ⟨k, e⟩)).1]
    exact hs
  tables owner h r p s hs := by rw [State.memoryOk, tableOwner_device h]; exact hs

/-- Settles O4: every change of the device keeps the canonical form. -/
theorem everyStepKeepsTheMemoryCanonical : Obligations.EveryStepKeepsTheMemoryCanonical :=
  fun _ _ hs h => memoryOk_invariant.step hs h

/-! ## The down levels (R3) -/

theorem levelsOk_startUp (d : Device) (lines : Presence) (now : Nat) (waiting : List Instr) :
    (State.startUp d lines now waiting).levelsOk := by
  intro c hc
  rw [List.eq_of_mem_replicate hc]
  show 96 + 16 ≤ 160
  decide

/-- The channel table of a settings record meets R3, whatever its bytes. -/
theorem levelsOk_applySettings (bytes : List Byte) (s : State) : (applySettings bytes s).levelsOk := by
  intro c hc
  simp only [applySettings, loadedKeys, List.mem_map] at hc
  obtain ⟨i, -, rfl⟩ := hc
  exact Nat.le_max_right _ _

theorem evaluateChannel_downLevel (p : Params) (c : Channel) (level : Byte) :
    (evaluateChannel p c level).downLevel = c.downLevel := by
  unfold evaluateChannel
  cases channelDecision p c level <;> rfl

theorem evaluateKeys_channels (levels : Levels) (s : State) :
    (evaluateKeys levels s).keys.channels =
      s.keys.channels.zipWith (evaluateChannel s.params) levels.toList := by
  unfold evaluateKeys
  dsimp only
  split
  · rw [raise_link]; rfl
  · rfl

theorem evaluateKeys_params (levels : Levels) (s : State) : (evaluateKeys levels s).params = s.params :=
  params_keys (evaluateKeys_outside levels s)

theorem levelsOk_evaluateKeys (levels : Levels) (s : State) (hs : s.levelsOk) :
    (evaluateKeys levels s).levelsOk := by
  intro d hd
  rw [evaluateKeys_channels, List.mem_iff_getElem] at hd
  obtain ⟨i, hi, rfl⟩ := hd
  rw [evaluateKeys_params, List.getElem_zipWith, evaluateChannel_downLevel]
  exact hs _ (List.getElem_mem _)

/-- A state whose channels stand above the up level, and whose tables are those of another. -/
theorem levelsOk_of_tables {s t : State} (h : t.tables = s.tables) (hs : s.levelsOk) : t.levelsOk := by
  simp only [State.tables, Prod.mk.injEq] at h
  rw [State.levelsOk, h.1, h.2.1]
  exact hs

theorem tables_of_outside {s t : State} (h : t.outside = s.outside) : t.tables = s.tables :=
  tables_of_base (base_of_outside h)

theorem levelsOk_mapKeys {s : State} {f : Keys → Keys} (h : ∀ c ∈ (f s.keys).channels,
    s.params.upLevel + 16 ≤ c.downLevel) : (s.mapKeys f).levelsOk := h

theorem levelsOk_storeUpLevel (n : Nat) (s : State) : (storeUpLevel n s).levelsOk := by
  intro c hc
  simp only [storeUpLevel, State.mapKeys_keys, State.mapParams_keys, List.mem_map] at hc
  obtain ⟨d, -, rfl⟩ := hc
  exact Nat.le_max_right _ _

theorem Channel.set_downLevel (c : Channel) (on : Bool) (level : Nat) : (c.set on level).downLevel = level := by
  rw [Channel.set_eq]

theorem levelsOk_channelSet (r : Request) (p : List Byte) (s : State) (hs : s.levelsOk) :
    (askChannelSet r p s).levelsOk := by
  unfold askChannelSet
  dsimp only
  (repeat' split)
  · exact levelsOk_of_tables (tables_of_outside (answer_outside ..)) hs
  · exact levelsOk_of_tables (tables_of_outside (answer_outside ..)) hs
  · refine levelsOk_of_tables (tables_of_outside (answer_outside ..)) (levelsOk_mapKeys fun c hc => ?_)
    obtain ⟨i, hi, rfl⟩ := List.mem_iff_getElem.1 hc
    rw [List.getElem_modify]
    split
    · rw [Channel.set_downLevel]
      exact Nat.le_max_right _ _
    · exact hs _ (List.getElem_mem _)

theorem levelsOk_faultClear (r : Request) (p : List Byte) (s : State) (hs : s.levelsOk) :
    (askFaultClear r p s).levelsOk := by
  have hclear (n : Nat) : (clearKeyLatches n s).levelsOk := by
    have hk : (s.mapKeys fun k => { k with channels :=
        (s.keys.channels.zipIdx.map fun ci => (ci.1, n.testBit ci.2)).map fun cn =>
          if cn.2 then { cn.1 with latch := cn.1.clearedLatch } else cn.1 }).levelsOk := by
      refine levelsOk_mapKeys fun c hc => ?_
      simp only [List.map_map, List.mem_map, Function.comp] at hc
      obtain ⟨ci, hci, rfl⟩ := hc
      have := hs ci.1 (List.fst_mem_of_mem_zipIdx hci)
      split <;> exact this
    unfold clearKeyLatches
    dsimp only
    split
    · exact levelsOk_of_tables (tables_of_outside (raise_outside ..)) hk
    · exact hk
  unfold askFaultClear
  dsimp only
  split
  · exact levelsOk_of_tables (tables_of_outside (answer_outside ..)) hs
  · exact levelsOk_of_tables (tables_of_outside ((answer_outside ..).trans (mapFeeds_outside ..))) (hclear _)

theorem levelsOk_setUpLevel (r : Request) (v : List Byte) (s : State) (hs : s.levelsOk) :
    (askSetUpLevel r v s).levelsOk := by
  rcases setByte_outside r 0x01 v (clamp 8 231) storeUpLevel s with h | ⟨n, h⟩
  · exact levelsOk_of_tables (tables_of_outside h) hs
  · exact levelsOk_of_tables (tables_of_outside h) (levelsOk_storeUpLevel n s)

theorem levelsOk_invariant : Invariant State.levelsOk where
  vital h hs := levelsOk_of_tables (congrArg Prod.snd h) hs
  startUp _ _ := levelsOk_startUp _ _ _ _
  device _ hs := hs
  settings bytes s _ := levelsOk_applySettings bytes s
  evaluated := levelsOk_evaluateKeys
  tables owner h r p s hs := by
    simp only [tableOwners, List.mem_cons, List.not_mem_nil, or_false] at h
    rcases h with rfl | rfl | rfl | rfl | rfl | rfl
    · exact levelsOk_setUpLevel r p s hs
    · exact levelsOk_channelSet r p s hs
    · exact levelsOk_faultClear r p s hs
    · obtain ⟨o, e⟩ := askDefine_outside r p s
      exact levelsOk_of_tables (tables_of_outside e) hs
    · obtain ⟨o, e⟩ := askUndefine_outside r p s
      exact levelsOk_of_tables (tables_of_outside e) hs
    · obtain ⟨o, e⟩ := askOverlayClear_outside r p s
      exact levelsOk_of_tables (tables_of_outside e) hs

/-- Settles O8: the evaluations and FAULT_CLEAR leave the down levels, and what sets a down level or the up level keeps
them apart. -/
theorem everyStepKeepsDownLevels : Obligations.EveryStepKeepsDownLevels :=
  fun _ _ hs h => levelsOk_invariant.step hs h

/-! ## The overlay (R52) -/

/-- An overlay as R52 has it: at most 512 entries, no two of one sequence. -/
def overlaySound (overlay : List OverlayEntry) : Prop :=
  overlay.length ≤ 512 ∧ (overlay.map (·.sequence)).Nodup

theorem overlayOk_of_outside {s t : State} {overlay : List OverlayEntry}
    (h : t.outside = (s.mapDict fun d => { d with overlay := overlay }).outside) (ho : overlaySound overlay) :
    t.overlayOk := by
  rw [State.overlayOk, (outside_eq.1 h).2.2.2.1]
  exact ho

/-- An entry replaces the one of its sequence, or joins the end while there is room (R54). -/
theorem overlaySound_put {overlay : List OverlayEntry} (e : OverlayEntry) (h : overlaySound overlay)
    (hroom : (overlay.any fun x => x.sequence == e.sequence) = true ∨ overlay.length < 512) :
    overlaySound (overlayPut overlay e) := by
  obtain ⟨hlen, hnodup⟩ := h
  unfold overlayPut
  split
  case isTrue =>
    refine ⟨by simpa using hlen, ?_⟩
    have hsame : (overlay.map fun x => if x.sequence = e.sequence then e else x).map (·.sequence) =
        overlay.map (·.sequence) := by
      rw [List.map_map]
      refine List.map_congr_left fun x _ => ?_
      by_cases hx : x.sequence = e.sequence <;> simp [hx]
    rw [hsame]
    exact hnodup
  case isFalse hnew =>
    have hlt : overlay.length < 512 := hroom.resolve_left hnew
    refine ⟨by rw [List.length_append]; exact hlt, ?_⟩
    simp only [List.any_eq_true, beq_iff_eq, not_exists, not_and] at hnew
    rw [List.map_append, List.nodup_append]
    refine ⟨hnodup, by simp, ?_⟩
    intro a ha b hb
    obtain ⟨x, hx, rfl⟩ := List.mem_map.1 ha
    rw [List.map_singleton, List.mem_singleton] at hb
    exact hb ▸ hnew x hx

theorem overlaySound_filter {overlay : List OverlayEntry} (p : OverlayEntry → Bool) (h : overlaySound overlay) :
    overlaySound (overlay.filter p) :=
  ⟨Nat.le_trans (List.length_filter_le ..) h.1, h.2.sublist (List.filter_sublist.map _)⟩

/-- What a change of the overlay and the engine's reaction to it leave outside the blocks (R52, R95). -/
theorem changeOverlay_outside (overlay : List OverlayEntry) (reach : Bool) (s : State) :
    (changeOverlay overlay reach s).outside = (s.mapDict fun d => { d with overlay := overlay }).outside := by
  rw [changeOverlay, overlayChanged_outside]

theorem overlayOk_answer {s : State} (r : Request) (c : ReplyCode) (f : List Byte) (hs : s.overlayOk) :
    (answer r c f s).overlayOk := by
  rw [State.overlayOk, ov_out (answer_outside ..)]
  exact hs

/-- A request that changes the overlay answers, and the blocks go on. -/
theorem overlayOk_changed {overlay : List OverlayEntry} (r : Request) (f : List Byte) (reach : Bool) (s : State)
    (h : overlaySound overlay) : (runBlocks (answer r .ok f (changeOverlay overlay reach s))).overlayOk :=
  overlayOk_of_outside (s := s)
    ((runBlocks_outside _).trans ((answer_outside ..).trans (changeOverlay_outside overlay reach s))) h

theorem overlayOk_define (r : Request) (p : List Byte) (s : State) (hs : s.overlayOk) :
    (askDefine r p s).overlayOk := by
  have happly (reach : Bool) (e : OverlayEntry) : (applyDefine r reach e s).overlayOk := by
    unfold applyDefine
    dsimp only
    split
    · exact overlayOk_answer _ _ _ hs
    case isFalse hroom =>
      refine overlayOk_changed _ _ _ _ (overlaySound_put e hs ?_)
      simp only [Config.overlayEntries, Bool.and_eq_true, Bool.not_eq_true', not_and] at hroom
      cases hheld : s.dict.overlay.any fun x => x.sequence == e.sequence
      · exact .inr (Nat.lt_of_not_le (hroom hheld ∘ decide_eq_true))
      · exact .inl rfl
  unfold askDefine
  dsimp only
  (repeat' split)
  · exact overlayOk_answer _ _ _ hs
  · exact overlayOk_answer _ _ _ hs
  · exact happly _ _

theorem overlayOk_undefine (r : Request) (p : List Byte) (s : State) (hs : s.overlayOk) :
    (askUndefine r p s).overlayOk := by
  unfold askUndefine
  (repeat' split)
  · exact overlayOk_answer _ _ _ hs
  · exact overlayOk_answer _ _ _ hs
  · exact overlayOk_changed _ _ _ _ (overlaySound_filter _ hs)

theorem overlaySound_nil : overlaySound [] := ⟨by simp, by simp⟩

theorem overlayOk_invariant : Invariant State.overlayOk where
  vital h hs := by rw [State.overlayOk, (vital_eq.1 h).2.2.2]; exact hs
  startUp _ _ := overlaySound_nil
  device _ hs := hs
  settings _ _ hs := hs
  evaluated levels s hs := by
    rw [State.overlayOk, ov_keys (evaluateKeys_outside levels s)]
    exact hs
  tables owner h r p s hs := by
    simp only [tableOwners, List.mem_cons, List.not_mem_nil, or_false] at h
    rcases h with rfl | rfl | rfl | rfl | rfl | rfl
    · rw [State.overlayOk, ov_pk (askSetUpLevel_outside r p s)]; exact hs
    · rw [State.overlayOk, ov_keys (askChannelSet_outside r p s)]; exact hs
    · rw [State.overlayOk, ov_keys (askFaultClear_outside r p s)]; exact hs
    · exact overlayOk_define r p s hs
    · exact overlayOk_undefine r p s hs
    · exact overlayOk_changed r _ _ s overlaySound_nil

/-- Settles O9: DEFINE replaces an entry or adds one while there is room, and the other two requests take entries
away. -/
theorem everyStepKeepsTheOverlaySound : Obligations.EveryStepKeepsTheOverlaySound :=
  fun _ _ hs h => overlayOk_invariant.step hs h

/-! ## The requests outstanding (R180) -/

theorem takeBadKind_outstanding (kind tag : Byte) {s : State} (h : s.link.outstanding ≤ 8) :
    (takeBadKind kind tag s).link.outstanding ≤ 8 := by
  simp only [takeBadKind]
  split
  · rw [countLinkFault_outstanding]; exact h
  case isFalse hn =>
    rw [outstanding_of_outside (answer_outside ..)]
    simp only [Bool.or_eq_true, decide_eq_true_eq, not_or, Config.outstandingRequests, ge_iff_le, Nat.not_le] at hn
    exact hn.1

theorem frameTaken_outstanding (taken : List Byte) {s : State} (h : s.link.outstanding ≤ 8) :
    (frameTaken taken s).link.outstanding ≤ 8 := by
  have hlost : (countLinkFault (endFrame s)).link.outstanding ≤ 8 := by
    rw [countLinkFault_outstanding]; exact h
  unfold frameTaken
  dsimp only
  split
  · exact hlost
  · split
    · exact h
    · split
      · rcases takeFrameOf_cases (byteAt taken 1) (byteAt taken 2)
          ((taken.take ((byteAt taken 0).toNat + 3)).drop 3) s with ⟨k, value, fixed, owner, howner, e⟩ | e <;> rw [e]
        · exact takeRequest_outstanding _ _ _ _ _ _ (fun r p s => (owner_kept howner r p s).2) h
        · exact takeBadKind_outstanding _ _ h
      · exact hlost

theorem operationTimesOut_outstanding (f : InFlight) (s : State) :
    (operationTimesOut f s).link.outstanding = s.link.outstanding := by
  rw [operationTimesOut, operationEnds_outstanding, countMemoryFault,
    outstanding_of_outside (raise_outside _ _)]
  rfl

theorem runEvaluation_outstanding (levels : Levels) (s : State) :
    (runEvaluation levels s).link.outstanding = s.link.outstanding := by
  obtain ⟨k, e⟩ := runEvaluation_outside levels s
  exact outstanding_of_outside (s := s.mapKeys fun _ => k) e

theorem startWaitEnds_outstanding (ready : Bool) (s : State) :
    (startWaitEnds ready s).link.outstanding = s.link.outstanding := by
  unfold startWaitEnds
  dsimp only
  rw [outstanding_of_outside (pushItem_outside _ _)]
  cases ready
  · exact (outstanding_of_outside (raise_outside _ _)).trans rfl
  · rfl

/-- No event takes a request: only BAD_KIND_REQUEST adds to those outstanding, and the departure of a reply ends one
(R179, R180). -/
theorem exec_event_outstanding {c : Instr} {s t : State} (hr : requestOf c = none)
    (hf : ∀ b, c ≠ .frameByteReceived b) (h : exec c s = .next t) (hs : s.link.outstanding ≤ 8) :
    t.link.outstanding ≤ 8 := by
  have stays : s.link.outstanding ≤ 8 := hs
  have kept {u : State} (e : u.link.outstanding = s.link.outstanding) : u.link.outstanding ≤ 8 := e ▸ hs
  have outside {u : State} (e : u.outside = s.outside) : u.link.outstanding ≤ 8 := kept (outstanding_of_outside e)
  have ite {p : Prop} {_ : Decidable p} {u : State} (hu : u.link.outstanding ≤ 8)
      (e : (if p then .next u else .next s : Result) = .next t) : t.link.outstanding ≤ 8 := by
    split at e <;> cases e
    · exact hu
    · exact hs
  have ends (f : InFlight) (o : OpOutcome) {u : State} (hu : u.link.outstanding ≤ 8) :
      (runBlocks (operationEnds f o u)).link.outstanding ≤ 8 := by
    rw [outstanding_of_outside (runBlocks_outside _), operationEnds_outstanding]
    exact hu
  have timesOut (f : InFlight) {u : State} (hu : u.link.outstanding ≤ 8) :
      (runBlocks (operationTimesOut f u)).link.outstanding ≤ 8 := by
    rw [outstanding_of_outside (runBlocks_outside _), operationTimesOut_outstanding]
    exact hu
  have blocks {u : State} (e : u.link.outstanding = s.link.outstanding) : (runBlocks u).link.outstanding ≤ 8 :=
    kept ((outstanding_of_outside (runBlocks_outside u)).trans e)
  have lost : (countLinkFault (endFrame s)).link.outstanding ≤ 8 := kept (countLinkFault_outstanding _)
  have departs (m : Message) : (departHead m s).link.outstanding ≤ 8 := Nat.le_trans (departHead_outstanding m s) hs
  have sampled (l : Presence) : (runSample l s).link.outstanding ≤ 8 := by
    unfold runSample
    dsimp only
    split
    · rw [outstanding_of_outside (sampleLines_outside ..)]; exact hs
    · exact hs
  cases c <;> simp only [requestOf, reduceCtorEq] at hr
  case frameByteReceived b => exact absurd rfl (hf b)
  case startUp =>
    cases h
    exact Nat.zero_le 8
  case startUpDeviceReady => exact ite (blocks (startWaitEnds_outstanding _ s)) h
  case startUpWaitTimeout => exact ite (blocks (startWaitEnds_outstanding _ s)) h
  case evaluation l => cases h; exact kept (runEvaluation_outstanding l s)
  case debounceHeld i l =>
    simp only [exec, execDebounceHeld] at h
    (repeat' split at h) <;> cases h
    · exact stays
    · exact kept (runEvaluation_outstanding l s)
    · exact stays
  case stuckLimitReached i l =>
    simp only [exec, execStuckLimitReached] at h
    split at h
    · exact ite (kept (runEvaluation_outstanding l s)) h
    · cases h; exact stays
  case releaseGuardExpiry => exact ite (outside (by simp)) h
  case afrmEdge => cases h; exact stays
  case forcedResolutionExpiry => exact ite (outside (by simp)) h
  case lineSenseSample l => cases h; exact sampled l
  case lineGained i l => exact ite (sampled l) h
  case lineLost i l => exact ite (sampled l) h
  case pacingExpiry => cases h; exact outside (pace_outside s)
  case frameCompletion i => exact ite (outside (by simp)) h
  case readyAnswered =>
    simp only [exec, execReadyAnswered] at h
    split at h
    · cases h; exact stays
    · exact ite (u := enterPhase .transfer _ (s.mapDevice Device.becomeReady)) hs h
  case transferEnd =>
    simp only [exec, execTransferEnd] at h
    split at h
    · cases h; exact stays
    · exact ite (u := enterPhase .busyWait _ s) hs h
  case readComplete flips =>
    simp only [exec, execReadComplete] at h
    (repeat' split at h) <;> cases h
    · exact stays
    · exact ends _ _ hs
    · exact stays
  case programComplete =>
    simp only [exec, execProgramComplete] at h
    split at h
    · cases h; exact stays
    · exact ite (ends _ _ (u := s.mapDevice _) hs) h
  case eraseComplete =>
    simp only [exec, execEraseComplete] at h
    split at h
    · cases h; exact stays
    · exact ite (ends _ _ (u := s.mapDevice _) hs) h
  case readyTimeout =>
    simp only [exec, execReadyTimeout] at h
    split at h
    · cases h; exact stays
    · exact ite (timesOut _ hs) h
  case completionTimeout =>
    simp only [exec, execCompletionTimeout] at h
    split at h
    · cases h; exact stays
    · exact ite (timesOut _ (u := s.mapDevice _) hs) h
  case frameDiscarded => cases h; exact lost
  case requestDiscarded tag => exact ite lost h
  case badKindRequest kind tag => cases h; exact takeBadKind_outstanding kind tag hs
  case linkResync => cases h; exact stays
  case messageDeparture =>
    simp only [exec, execMessageDeparture] at h
    split at h <;> cases h
    · exact stays
    · exact departs _
  case gatherTimeExpiry => cases h; exact stays
  case byteClockedOut =>
    simp only [exec, execByteClockedOut] at h
    (repeat' split at h) <;> cases h
    · exact stays
    · exact stays
    · exact departs _

theorem exec_outstanding {c : Instr} {s t : State} (h : exec c s = .next t) (hs : s.link.outstanding ≤ 8) :
    t.link.outstanding ≤ 8 := by
  cases hr : requestOf c with
  | some request =>
    obtain ⟨value, fixed, owner, howner, e, -⟩ := exec_request (kind := request.1) (tag := request.2.1) hr s
    cases h.symm.trans e
    exact takeRequest_outstanding _ _ _ _ _ _ (fun r p s => (owner_kept howner r p s).2) hs
  | none =>
    by_cases hf : ∃ b, c = .frameByteReceived b
    · obtain ⟨b, rfl⟩ := hf
      simp only [exec, execFrameByteReceived] at h
      split at h
      · split at h <;> cases h <;> exact hs
      · cases h
        exact frameTaken_outstanding _ hs
    · exact exec_event_outstanding hr (fun b hb => hf ⟨b, hb⟩) h hs

/-- Settles O10: a request is taken only below 8, and nothing else adds to those outstanding. -/
theorem everyStepKeepsAtMostEightOutstanding : Obligations.EveryStepKeepsAtMostEightOutstanding := by
  intro s t hs h
  unfold step at h
  split at h
  · cases h
    exact hs
  · exact exec_outstanding h hs

/-! ## What every command leaves alone -/

theorem DeviceChange.same_of {c : Instr} {d e : Device} (h : DeviceChange c d e) (hc : ¬ runsDevice c) : e = d := by
  cases h with
  | same => rfl
  | ready runs => exact absurd runs hc
  | finished runs => exact absurd runs hc
  | cut runs => exact absurd runs hc

theorem takeRequest_env {owner : Request → List Byte → State → State} (h : owner ∈ owners) (kind tag : Byte)
    (payload : List Byte) (fixed : Option Nat) (s : State) :
    (takeRequest kind tag payload fixed owner s).env = s.env :=
  takeRequest_base State.env _ _ _ _ _ s hg_env fun r p s => (owner_kept h r p s).1

theorem frameTaken_env (taken : List Byte) (s : State) : (frameTaken taken s).env = s.env := by
  have hlost : (countLinkFault (endFrame s)).env = s.env := hg_env _ _ (countLinkFault_base _)
  unfold frameTaken
  dsimp only
  split
  · exact hlost
  · split
    · rfl
    · split
      · exact takeFrameOf_env _ _ _ _
      · exact hlost

/-- A request and a received byte leave the environment alone. -/
theorem exec_frame_env {c : Instr} (s : State) (hc : requestOf c ≠ none ∨ ∃ b, c = .frameByteReceived b) :
    ∃ t, exec c s = .next t ∧ t.env = s.env := by
  rcases hc with hc | ⟨b, rfl⟩
  · obtain ⟨request, hr⟩ := Option.ne_none_iff_exists'.1 hc
    obtain ⟨value, fixed, owner, howner, e, -⟩ := exec_request (kind := request.1) (tag := request.2.1) hr s
    exact ⟨_, e, takeRequest_env howner _ _ _ _ s⟩
  · simp only [exec, execFrameByteReceived]
    split
    · split
      · exact ⟨_, rfl, rfl⟩
      · exact ⟨s, rfl, rfl⟩
    · exact ⟨_, rfl, frameTaken_env _ s⟩

/-- What an event leaves alone: the clock and the queue always, and the device unless the command runs it. -/
theorem EventChange.kept_env {c : Instr} {s t : State} (h : EventChange c s t) :
    t.pending = s.pending ∧ t.now = s.now ∧ (¬ runsDevice c → t.device = s.device) := by
  cases h with
  | device d change base =>
    obtain ⟨hd, -, hn, hp⟩ := env_eq.1 (base_eq.1 base).1
    exact ⟨hp, hn, fun hc => hd.trans (change.same_of hc)⟩
  | settings d change bytes item base =>
    obtain ⟨hd, -, hn, hp⟩ := env_eq.1 (base_eq.1 base).1
    exact ⟨hp, hn, fun hc => hd.trans (change.same_of hc)⟩
  | evaluated levels event base =>
    obtain ⟨hd, -, hn, hp⟩ := env_eq.1 ((base_eq.1 base).1.trans (env_keys (evaluateKeys_outside levels s)))
    exact ⟨hp, hn, fun _ => hd⟩
  | sampled lines base =>
    obtain ⟨hd, -, hn, hp⟩ := env_eq.1 (base_eq.1 base).1
    exact ⟨hp, hn, fun _ => hd⟩

theorem exec_kept_env (c : Instr) (s : State) :
    ∃ t, exec c s = .next t ∧ t.pending = s.pending ∧ t.now = s.now ∧ (¬ runsDevice c → t.device = s.device) := by
  by_cases hu : c = .startUp
  · subst hu
    exact ⟨_, rfl, rfl, rfl, fun hc => absurd (.inl rfl) hc⟩
  · by_cases hc : requestOf c ≠ none ∨ ∃ b, c = .frameByteReceived b
    · obtain ⟨t, e, henv⟩ := exec_frame_env s hc
      obtain ⟨hd, -, hn, hp⟩ := env_eq.1 henv
      exact ⟨t, e, hp, hn, fun _ => hd⟩
    · simp only [not_or, Classical.not_not, not_exists] at hc
      obtain ⟨t, e, hchange⟩ := exec_event (s := s) hc.1 hu hc.2
      exact ⟨t, e, hchange.kept_env⟩

/-- Settles O2: a request, a received byte, START_UP and every other event answer a next state. -/
theorem everyCommandAnswersNext : Obligations.EveryCommandAnswersNext := by
  intro c s
  obtain ⟨t, e, hp, hn, -⟩ := exec_kept_env c s
  exact ⟨t, e, hp, hn⟩

/-- Settles O5: a device that is as it was holds the same bytes. -/
theorem onlyDeviceCommandsChangeTheMemory : Obligations.OnlyDeviceCommandsChangeTheMemory := by
  intro c s t h1 h2 h3 h4 h5 h6 h
  obtain ⟨u, e, -, -, hd⟩ := exec_kept_env c s
  cases h.symm.trans e
  have hdevice : t.device = s.device := hd (by simp [runsDevice, *])
  exact ⟨hdevice, fun a => by rw [hdevice]⟩

end Sys2Proof.Machine
end

section
/-! PROOFS. The tables that only their own commands change, the step, and reset. -/

namespace Sys2Proof.Machine

/-! ## Which tables a request may change -/

/-- The owner of a request's row, by what it may change outside its block: nothing, the parameter store, or what the
row's own request to a table changes. -/
inductive RequestOwner : Instr → (Request → List Byte → State → State) → Prop
  | plain {c owner} (h : owner ∈ plainOwners) : RequestOwner c owner
  | store {c owner} (h : owner ∈ storeOwners) (param : ∃ tag p, requestOf c = some (kindSetParam, tag, p)) :
      RequestOwner c owner
  | setUpLevel (tag value) : RequestOwner (.setUpLevel tag value) askSetUpLevel
  | channelSet (tag payload) : RequestOwner (.channelSet tag payload) askChannelSet
  | faultClear (tag payload) : RequestOwner (.faultClear tag payload) askFaultClear
  | define (tag payload) : RequestOwner (.define tag payload) askDefine
  | undefine (tag payload) : RequestOwner (.undefine tag payload) askUndefine
  | overlayClear (tag payload) : RequestOwner (.overlayClear tag payload) askOverlayClear

theorem exec_requestOwner {c : Instr} (h : requestOf c ≠ none) (s : State) :
    ∃ kind tag value fixed owner, exec c s = .next (takeRequest kind tag value fixed owner s) ∧
      RequestOwner c owner := by
  cases c <;> simp only [requestOf, ne_eq, not_true_eq_false, reduceCtorEq, not_false_eq_true] at h
  case setUpLevel => exact ⟨_, _, _, _, _, rfl, .setUpLevel _ _⟩
  case channelSet => exact ⟨_, _, _, _, _, rfl, .channelSet _ _⟩
  case faultClear => exact ⟨_, _, _, _, _, rfl, .faultClear _ _⟩
  case define => exact ⟨_, _, _, _, _, rfl, .define _ _⟩
  case undefine => exact ⟨_, _, _, _, _, rfl, .undefine _ _⟩
  case overlayClear => exact ⟨_, _, _, _, _, rfl, .overlayClear _ _⟩
  case setDebounceTime | setStuckLimit | setReleaseGuard | setStrokeCopy | setCorrectionDepth | setResolvePause |
      setTriggerLevel | setGatherTime | setJournalRegion | setLowThreshold | setMarkTableEntry | setReportMask =>
    exact ⟨_, _, _, _, _, rfl, .store (by simp [storeOwners]) ⟨_, _, rfl⟩⟩
  all_goals exact ⟨_, _, _, _, _, rfl, .plain (by simp [plainOwners])⟩

/-- The channel table, the parameter store and the overlay after a request. -/
theorem exec_request_tables {c : Instr} {s t : State} (hr : requestOf c ≠ none) (h : exec c s = .next t) :
    ((∀ g p, c ≠ .channelSet g p) → (∀ g p, c ≠ .faultClear g p) → (∀ g v, c ≠ .setUpLevel g v) →
      t.keys = s.keys) ∧
    ((∀ tag payload, requestOf c ≠ some (kindSetParam, tag, payload)) → t.params = s.params) ∧
    ((∀ g p, c ≠ .define g p) → (∀ g p, c ≠ .undefine g p) → (∀ g p, c ≠ .overlayClear g p) →
      t.dict.overlay = s.dict.overlay) := by
  obtain ⟨kind, tag, value, fixed, owner, e, ho⟩ := exec_requestOwner hr s
  cases h.symm.trans e
  have keys (hk : ∀ r p s, (owner r p s).keys = s.keys) := takeRequest_base State.keys kind tag value fixed owner s hg_keys hk
  have params (hk : ∀ r p s, (owner r p s).params = s.params) :=
    takeRequest_base State.params kind tag value fixed owner s hg_params hk
  have overlay (hk : ∀ r p s, (owner r p s).dict.overlay = s.dict.overlay) :=
    takeRequest_base (fun s => s.dict.overlay) kind tag value fixed owner s hg_ov hk
  cases ho with
  | plain h =>
    exact ⟨fun _ _ _ => keys fun r p s => keys_out (plainOwner_outside h r p s),
      fun _ => params fun r p s => params_out (plainOwner_outside h r p s),
      fun _ _ _ => overlay fun r p s => ov_out (plainOwner_outside h r p s)⟩
  | store h param =>
    obtain ⟨tag, p, hparam⟩ := param
    exact ⟨fun _ _ _ => keys fun r p s => keys_par (storeOwner_outside h r p s),
      fun hn => absurd hparam (hn tag p),
      fun _ _ _ => overlay fun r p s => ov_par (storeOwner_outside h r p s)⟩
  | setUpLevel tag v =>
    exact ⟨fun _ _ hn => absurd rfl (hn tag v), fun hn => absurd rfl (hn tag _),
      fun _ _ _ => overlay fun r p s => ov_pk (askSetUpLevel_outside r p s)⟩
  | channelSet tag p =>
    exact ⟨fun hn _ _ => absurd rfl (hn tag p),
      fun _ => params fun r p s => params_keys (askChannelSet_outside r p s),
      fun _ _ _ => overlay fun r p s => ov_keys (askChannelSet_outside r p s)⟩
  | faultClear tag p =>
    exact ⟨fun _ hn _ => absurd rfl (hn tag p),
      fun _ => params fun r p s => params_keys (askFaultClear_outside r p s),
      fun _ _ _ => overlay fun r p s => ov_keys (askFaultClear_outside r p s)⟩
  | define tag p =>
    exact ⟨fun _ _ _ => keys fun r p s => keys_dict (askDefine_outside r p s),
      fun _ => params fun r p s => params_dict (askDefine_outside r p s), fun hn _ _ => absurd rfl (hn tag p)⟩
  | undefine tag p =>
    exact ⟨fun _ _ _ => keys fun r p s => keys_dict (askUndefine_outside r p s),
      fun _ => params fun r p s => params_dict (askUndefine_outside r p s), fun _ hn _ => absurd rfl (hn tag p)⟩
  | overlayClear tag p =>
    exact ⟨fun _ _ _ => keys fun r p s => keys_dict (askOverlayClear_outside r p s),
      fun _ => params fun r p s => params_dict (askOverlayClear_outside r p s),
      fun _ _ hn => absurd rfl (hn tag p)⟩

/-- An event outside the settings load leaves the parameter store and the overlay alone, and the channel table
unless it is an evaluation. -/
theorem EventChange.kept_tables {c : Instr} {s t : State} (h : EventChange c s t)
    (hload : ∀ got, s.port.items.head? ≠ some (.settingsLoad got)) :
    (¬ evaluates c → t.keys = s.keys) ∧ t.params = s.params ∧ t.dict.overlay = s.dict.overlay := by
  cases h with
  | device d change base =>
    obtain ⟨-, hk, hp, ho⟩ := base_eq.1 base
    exact ⟨fun _ => hk, hp, ho⟩
  | settings d change bytes item base =>
    obtain ⟨g, hg⟩ := item
    exact absurd hg (hload g)
  | evaluated levels event base =>
    obtain ⟨-, -, hp, ho⟩ := base_eq.1 base
    have hout := evaluateKeys_outside levels s
    exact ⟨fun hc => absurd event hc, hp.trans (params_keys hout), ho.trans (ov_keys hout)⟩
  | sampled lines base =>
    obtain ⟨-, hk, hp, ho⟩ := base_eq.1 base
    exact ⟨fun _ => hk, hp, ho⟩

/-- Settles O6: by the owner of a request, and by what an event other than START_UP can do. -/
theorem onlyTheirCommandsChangeTheTables : Obligations.OnlyTheirCommandsChangeTheTables := by
  intro c s t hu hload hf h
  by_cases hr : requestOf c = none
  case neg =>
    obtain ⟨hk, hp, ho⟩ := exec_request_tables hr h
    exact ⟨fun _ _ _ => hk, hp, ho⟩
  obtain ⟨u, e, change⟩ := exec_event (s := s) hr hu hf
  cases h.symm.trans e
  obtain ⟨hk, hp, ho⟩ := change.kept_tables hload
  refine ⟨fun h1 h2 h3 _ _ _ => hk ?_, fun _ => hp, fun _ _ _ => ho⟩
  simp [evaluates, h1, h2, h3]

/-! ## The step, and reset -/

/-- Settles O1. -/
theorem stepRunsTheFrontCommand : Obligations.StepRunsTheFrontCommand := by
  refine ⟨fun c rest s h => ?_, fun s h => ?_⟩
  · simp only [step, h]
  · simp only [step, State.tick, h]

/-- Settles O7: reset meets each invariant as START_UP does (R189). -/
theorem resetMeetsTheInvariants : Obligations.ResetMeetsTheInvariants :=
  ⟨rfl, levelsOk_startUp _ _ _ _, overlaySound_nil, Nat.zero_le 8⟩

/-- Settles O16. -/
theorem afrmEdgeCounts : Obligations.AfrmEdgeCounts := fun _ => rfl

/-- ATTN is wanted by a reply, by the number of notices or by the age of the oldest (R183). -/
theorem attnWanted_iff (s : State) :
    attnWanted s = true ↔
      (∃ m ∈ s.link.queue, m.isReply = true) ∨ s.params.trigger ≤ s.link.notices.length ∨
        ∃ m, s.link.notices.head? = some m ∧ m.queuedAt + s.params.gather ≤ s.now := by
  simp only [attnWanted, Bool.or_eq_true, List.any_eq_true, decide_eq_true_eq, or_assoc]
  split
  case h_1 hn => simp [hn]
  case h_2 m rest hn => simp [hn]

/-- Settles O55. -/
theorem attnFollowsTheQueue : Obligations.AttnFollowsTheQueue :=
  fun s => ⟨testAttn s, rfl, rfl, attnWanted_iff s⟩

/-- Settles O3: reset is a constant, so each value is read off. -/
theorem resetLeavesTheStatedValues : Obligations.ResetLeavesTheStatedValues := by
  refine ⟨rfl, ⟨rfl, rfl, rfl, rfl, rfl, rfl⟩, rfl, ?_, rfl, rfl, rfl, rfl, rfl, rfl, rfl, ⟨rfl, ?_⟩, ?_, ?_, ?_, rfl, ?_,
    rfl, rfl⟩
  · decide
  · decide
  · decide
  · exact ⟨rfl, rfl, rfl, rfl, rfl, rfl, rfl, rfl, rfl, rfl, rfl, rfl, rfl, rfl, rfl, rfl, rfl, rfl⟩
  · exact ⟨rfl, rfl, rfl, rfl, rfl, rfl, rfl, rfl⟩
  · exact ⟨rfl, rfl, rfl, rfl, rfl, rfl, rfl, rfl, rfl, rfl⟩

end Sys2Proof.Machine
end

section
/-! PROOFS. The receive side of the link controller: frames, discards and its own answers (R178, R180). -/

namespace Sys2Proof.Machine

/-! ## Discards and the link controller's own answers -/

/-- A discarded frame: the framer is HUNTING, one link fault is counted, and LINK_FAULT is raised (R178). -/
theorem countLinkFault_endFrame (s : State) :
    countLinkFault (endFrame s) = { s with
      link := (raise .linkFault { s with link := { s.link with
        framer := .hunting, linkFaults := min (s.link.linkFaults + 1) 0xFFFFFFFF } }).link } := by
  unfold countLinkFault
  rw [raise_link]
  rfl

/-- The condition under which a request is discarded (R180), as the model tests it. -/
theorem refused_iff (tag : Byte) (s : State) :
    (decide (s.link.outstanding ≥ Config.outstandingRequests) || tag == 0) = true ↔ ¬ s.takes tag := by
  simp only [Config.outstandingRequests, ge_iff_le, Bool.or_eq_true, decide_eq_true_eq, beq_iff_eq, Classical.not_and_iff_not_or_not, Nat.not_lt,
    ne_eq, Classical.not_not]

theorem takeRequest_refused {kind tag : Byte} {payload : List Byte} {fixed : Option Nat}
    {owner : Request → List Byte → State → State} {s : State} (h : ¬ s.takes tag) :
    takeRequest kind tag payload fixed owner s = countLinkFault (endFrame s) := by
  have e := (refused_iff tag (endFrame s)).2 h
  simp only [takeRequest, e, if_true]

theorem takeBadKind_refused {kind tag : Byte} {s : State} (h : ¬ s.takes tag) :
    takeBadKind kind tag s = countLinkFault (endFrame s) := by
  have e := (refused_iff tag (endFrame s)).2 h
  simp only [takeBadKind, e, if_true]

theorem takeBadKind_taken {kind tag : Byte} {s : State} (h : s.takes tag) :
    takeBadKind kind tag s = s.answering kind tag [0x03] := by
  have e := mt (refused_iff tag (endFrame s)).1 (Classical.not_not.2 h)
  simp only [takeBadKind, e]
  exact answer_taken kind tag .badKind [] s

/-- Settles O51. -/
theorem framesThatAreNotServed : Obligations.FramesThatAreNotServed := by
  intro s tag kind
  have discards : Host.Outcome.next (countLinkFault (endFrame s)) = (_ : Result) :=
    congrArg Host.Outcome.next (countLinkFault_endFrame s)
  refine ⟨discards, rfl, fun h => ⟨?_, ?_, ?_⟩, fun h => ⟨?_, ?_⟩⟩
  · exact (if_pos ((refused_iff tag s).2 h)).trans discards
  · exact (congrArg Host.Outcome.next (takeBadKind_refused h)).trans discards
  · intro c k payload hr
    obtain ⟨value, fixed, owner, -, e, -⟩ := exec_request hr s
    rw [takeRequest_refused h] at e
    exact e.trans discards
  · exact if_neg (mt (refused_iff tag s).1 (Classical.not_not.2 h))
  · exact congrArg Host.Outcome.next (takeBadKind_taken h)

/-- A request of fixed length with another length is answered BAD_LENGTH unless BOOTING answers it BUSY (R180). -/
theorem takeRequest_wrongLength {kind tag : Byte} {payload : List Byte} {n : Nat}
    {owner : Request → List Byte → State → State} {s : State} (h : s.takes tag)
    (hb : s.job.state ≠ .booting ∨ kind = kindIdentify ∨ kind = kindStatus) (hl : payload.length ≠ n) :
    takeRequest kind tag payload (some n) owner s =
      answer ⟨kind, tag⟩ .badLength [] (s.mapLink Link.withTaken) := by
  have e := mt (refused_iff tag (endFrame s)).1 (Classical.not_not.2 h)
  have hbusy : (s.job.state == .booting && kind != kindIdentify && kind != kindStatus) = false := by
    rcases hb with hb | rfl | rfl
    · simp [hb]
    · simp
    · simp
  have hlen : ((some n).any (· != payload.length)) = true := by simp [hl.symm]
  simp only [takeRequest, e]
  simp only [endFrame, State.mapLink_job, hbusy, hlen]
  rfl

/-- Settles O52. -/
theorem busyAndLengthAnswers : Obligations.BusyAndLengthAnswers := by
  intro c kind tag payload s hr h
  obtain ⟨value, fixed, owner, -, e, hfixed⟩ := exec_request hr s
  refine ⟨fun hb h1 h2 => ?_, fun hb n hn hl => ?_⟩
  · rw [e, takeRequest_booting h hb ⟨h1, h2⟩, answer_taken]
    rfl
  · obtain ⟨rfl, rfl⟩ := hfixed n hn
    rw [e, takeRequest_wrongLength h hb hl, answer_taken]
    rfl

/-! ## The framer (R178) -/

/-- A request's row is the taking of its frame by KIND. -/
theorem exec_takeFrameOf {c : Instr} {kind tag : Byte} {payload : List Byte} (hwf : c.wellFormed = true)
    (h : requestOf c = some (kind, tag, payload)) (s : State) : exec c s = .next (takeFrameOf kind tag payload s) := by
  cases c <;> simp only [requestOf, Option.some.injEq, Prod.mk.injEq, reduceCtorEq] at h <;>
    obtain ⟨rfl, rfl, rfl⟩ := h
  case setParamUnknownIdentifier tag payload =>
    refine congrArg Host.Outcome.next ?_
    show requestSetParamUnknownIdentifier tag payload s = takeSetParam tag payload s
    cases payload with
    | nil => rfl
    | cons id value =>
      simp only [Instr.wellFormed, Bool.and_eq_true, Bool.not_eq_true', knownIdentifier, Bool.and_eq_false_iff,
        decide_eq_false_iff_not] at hwf
      simp only [takeSetParam]
      split
      case h_14 => rfl
      all_goals omega
  all_goals rfl

theorem takeFrameOf_badKind {kind : Byte} (h : 30 < kind.toNat ∨ kind = 0) (tag : Byte) (payload : List Byte)
    (s : State) : takeFrameOf kind tag payload s = takeBadKind kind tag s := by
  unfold takeFrameOf
  split
  case h_31 => rfl
  all_goals
    exfalso
    rcases h with h | rfl
    · omega
    · simp_all

/-- A byte that joins a frame in progress (R178). -/
theorem exec_frameByte {s : State} {taken : List Byte} (h : s.link.framer = .inFrame taken) (b : Byte) :
    exec (.frameByteReceived b) s = .next (frameTaken (taken ++ [b]) s) := by
  simp only [exec, execFrameByteReceived, h]

theorem frameTaken_tooLong {taken : List Byte} (h : 240 < (byteAt taken 0).toNat) (s : State) :
    frameTaken taken s = countLinkFault (endFrame s) := by
  simp only [frameTaken, Config.framePayload, h, if_true]

theorem frameTaken_goesOn {taken : List Byte} (hl : (byteAt taken 0).toNat ≤ 240)
    (h : taken.length < (byteAt taken 0).toNat + 5) (s : State) :
    frameTaken taken s = { s with link := { s.link with framer := .inFrame taken } } := by
  simp only [frameTaken, Config.framePayload, Nat.not_lt.2 hl, if_false, h, if_true]
  rfl

/-- The second check byte ends a frame, which is taken by its KIND where the check matches (R178). -/
theorem frameTaken_ends {kind tag : Byte} {payload : List Byte} (hp : payload.length ≤ 240) (check b : Byte) (s : State) :
    let body := [BitVec.ofNat 8 payload.length, kind, tag] ++ payload
    frameTaken (body ++ [check, b]) s =
      if crcBytes body = [check, b] then takeFrameOf kind tag payload s else countLinkFault (endFrame s) := by
  have hlen : (BitVec.ofNat 8 payload.length).toNat = payload.length := by
    rw [BitVec.toNat_ofNat]; omega
  have htake : (payload ++ [check, b]).take payload.length = payload := by simp
  have hdrop : (payload ++ [check, b]).drop payload.length = [check, b] := by simp
  simp [frameTaken, Config.framePayload, byteAt, hlen, Nat.not_lt.2 hp]

/-- Settles O53. -/
theorem receivedFramesAreHandedOn : Obligations.ReceivedFramesAreHandedOn := by
  intro s b
  have discards {taken : List Byte} (hs : s.link.framer = .inFrame taken)
      (h : frameTaken (taken ++ [b]) s = countLinkFault (endFrame s)) :
      exec (.frameByteReceived b) s = exec .frameDiscarded s :=
    (exec_frameByte hs b).trans (congrArg Host.Outcome.next h)
  refine ⟨fun hs => ?_, fun hs h => ?_, fun hs h => ?_, fun length rest hs hl hr => ?_, ?_⟩
  · simp only [exec, execFrameByteReceived, hs]
    split <;> rfl
  · exact discards hs (frameTaken_tooLong (taken := [b]) h s)
  · rw [exec_frameByte hs]
    exact congrArg Host.Outcome.next (frameTaken_goesOn (taken := [b]) h (by simp) s)
  · rw [exec_frameByte hs]
    exact congrArg Host.Outcome.next (frameTaken_goesOn (taken := length :: rest ++ [b]) hl (by simp [byteAt]; omega) s)
  · intro kind tag check payload hp body hs
    have hframe : exec (.frameByteReceived b) s =
        .next (if crcBytes body = [check, b] then takeFrameOf kind tag payload s else countLinkFault (endFrame s)) := by
      rw [exec_frameByte hs, ← frameTaken_ends hp]
      simp [body]
    refine ⟨fun hcrc => ?_, fun hcrc => ⟨fun c hwf hr => ?_, fun hk => ?_⟩⟩
    · rw [hframe, if_neg hcrc]
      rfl
    · rw [hframe, if_pos hcrc, exec_takeFrameOf hwf hr]
    · rw [hframe, if_pos hcrc, takeFrameOf_badKind hk]
      rfl

end Sys2Proof.Machine
end

section
/-! PROOFS. The conditions (R184, R185), and PORT_QUERY (R122). -/

namespace Sys2Proof.Machine

/-- A request that is served is handed to its owner, with its payload of the right length (R180). -/
theorem exec_serves {c : Instr} {kind tag : Byte} {payload : List Byte} {fixed : Option Nat}
    {owner : Request → List Byte → State → State} {s : State} (h : s.serves tag)
    (e : exec c s = .next (takeRequest kind tag payload fixed owner s))
    (hl : fixed.all (· == payload.length) = true) :
    exec c s = .next (owner ⟨kind, tag⟩ payload (s.mapLink Link.withTaken)) :=
  e.trans (congrArg Host.Outcome.next (takeRequest_serves h hl))

/-- A request that its owner answers at once, with nothing else changed. -/
theorem answer_taken_answering (kind tag : Byte) (code : ReplyCode) (fields : List Byte) (s : State) :
    answer ⟨kind, tag⟩ code fields (s.mapLink Link.withTaken) = s.answering kind tag (replyCodeByte code :: fields) :=
  answer_taken kind tag code fields s

/-! ## PORT_QUERY -/

/-- The reply's fields are the records as they stand, in the order of R181. -/
theorem portQueryFields_eq (f : Feeds) :
    portQueryFields f =
      ([ProfileId.a, ProfileId.b, ProfileId.c].flatMap fun i => profilePart (f.profile i)) ++
        ([PortId.p0, PortId.p1, PortId.p2, PortId.p3, PortId.p4].flatMap fun i => (f.port i).fields i) ++
        ([PortId.p1, PortId.p2, PortId.p3, PortId.p4].flatMap fun i =>
          [boolCode (f.port i).linePresent, boolCode (f.port i).lineFault]) := by
  simp only [portQueryFields, allPorts, viewerPorts, List.flatMap_cons, List.flatMap_nil, List.append_nil,
    List.append_assoc]
  rfl

/-- Settles O36. -/
theorem portQueryReportsTheFeeds : Obligations.PortQueryReportsTheFeeds := by
  intro tag s h
  refine ⟨fun hb => ?_, fun hb => ?_⟩
  · exact congrArg Host.Outcome.next ((takeRequest_booting h hb (by decide)).trans (answer_taken_answering ..))
  · rw [exec_serves ⟨h, hb⟩ rfl rfl, askPortQuery, answer_taken_answering, portQueryFields_eq]
    rfl

/-! ## The condition bits -/

/-- A condition's place in the condition set (section 11.4). -/
def Condition.place : Condition → Nat
  | .strokeLost => 0 | .journalPassing => 1 | .memoryFault => 2 | .keyFault => 3
  | .portFault => 4 | .journalLow => 5 | .linkFault => 6

theorem Condition.bit_eq_twoPow (c : Condition) : c.bit = BitVec.twoPow 8 c.place := by
  cases c <;> rfl

theorem Condition.place_inj {c d : Condition} (h : c.place = d.place) : c = d := by
  revert h; cases c <;> cases d <;> decide

/-- A set's flag for a condition is the bit at the condition's place. -/
theorem hasFlag_bit (set : Byte) (c : Condition) : hasFlag set c.bit = set.getLsbD c.place := by
  rw [hasFlag, c.bit_eq_twoPow, BitVec.and_twoPow]
  cases set.getLsbD c.place
  · simp
  · cases c <;> rfl

@[simp] theorem hasFlag_or_bit (set : Byte) (c d : Condition) :
    hasFlag (set ||| d.bit) c.bit = (hasFlag set c.bit || decide (c = d)) := by
  have h : d.bit.getLsbD c.place = decide (c = d) := by
    cases c <;> cases d <;> rfl
  rw [hasFlag_bit, hasFlag_bit, BitVec.getLsbD_or, h]

@[simp] theorem hasFlag_without (set cleared : Byte) (c : Condition) :
    hasFlag (set &&& ~~~cleared) c.bit = (hasFlag set c.bit && !hasFlag cleared c.bit) := by
  have hplace : c.place < 8 := by cases c <;> decide
  simp only [hasFlag_bit, BitVec.getLsbD_and, BitVec.getLsbD_not, hplace, decide_true, Bool.true_and]

theorem hasFlag_and (a b : Byte) (c : Condition) :
    hasFlag (a &&& b) c.bit = (hasFlag a c.bit && hasFlag b c.bit) := by
  simp only [hasFlag_bit, BitVec.getLsbD_and]

@[simp] theorem hasFlag_bit_bit (c d : Condition) : hasFlag d.bit c.bit = decide (c = d) := by
  cases c <;> cases d <;> rfl

@[simp] theorem hasFlag_zero (flag : Byte) : hasFlag 0#8 flag = false := by
  simp [hasFlag]

theorem hasFlag_eq_false {set flag : Byte} : hasFlag set flag = false ↔ set &&& flag = 0 := by
  simp [hasFlag]

theorem hasFlag_eq_true {set flag : Byte} : hasFlag set flag = true ↔ set &&& flag ≠ 0 := by
  simp [hasFlag]

/-! ## Raising a condition -/

/-- A condition that is masked or already notified is not notified again (R184). -/
theorem notifyCondition_quiet {c : Condition} {s : State}
    (h : s.params.reportMask &&& c.bit ≠ 0 ∨ s.link.notified &&& c.bit ≠ 0) : notifyCondition c s = s := by
  unfold notifyCondition
  rw [if_pos]
  simpa only [Bool.or_eq_true, hasFlag_eq_true] using h

/-- With notice space, an unmasked condition becomes notified and its notice is queued (R184). -/
theorem notifyCondition_queued {c : Condition} {s : State} (hm : s.params.reportMask &&& c.bit = 0)
    (hn : s.link.notified &&& c.bit = 0) (hroom : s.link.notices.length < 40) :
    notifyCondition c s = queueCondition c (s.mapLink fun l => { l with notified := l.notified ||| c.bit }) := by
  unfold notifyCondition
  rw [if_neg (by simp [hasFlag_eq_false.2 hm, hasFlag_eq_false.2 hn])]
  exact if_pos (decide_eq_true hroom)

/-- Without notice space, its notice is deferred (R182, R184). -/
theorem notifyCondition_deferred {c : Condition} {s : State} (hm : s.params.reportMask &&& c.bit = 0)
    (hn : s.link.notified &&& c.bit = 0) (hroom : 40 ≤ s.link.notices.length) :
    notifyCondition c s = s.mapLink fun l =>
      { l with notified := l.notified ||| c.bit, notifyPending := l.notifyPending ||| c.bit } := by
  unfold notifyCondition
  rw [if_neg (by simp [hasFlag_eq_false.2 hm, hasFlag_eq_false.2 hn])]
  exact if_neg (mt of_decide_eq_true (Nat.not_lt.2 hroom))

theorem raise_params (c : Condition) (s : State) : (raise c s).params = s.params := by
  rw [raise_link]

theorem causeHolds_raise (c d : Condition) (s : State) : causeHolds (raise d s) c = causeHolds s c := by
  rw [raise_link]
  cases c <;> rfl

theorem notifyCondition_notified (c : Condition) (s : State) :
    (notifyCondition c s).link.notified =
      if hasFlag s.params.reportMask c.bit || hasFlag s.link.notified c.bit then s.link.notified
      else s.link.notified ||| c.bit := by
  unfold notifyCondition
  split
  · rfl
  · dsimp only
    split <;> rfl

/-- Only a masked condition stays unnotified (R184). -/
theorem hasFlag_notified_notify (c d : Condition) (s : State) :
    hasFlag (notifyCondition d s).link.notified c.bit =
      (hasFlag s.link.notified c.bit || (decide (c = d) && !hasFlag s.params.reportMask d.bit)) := by
  rw [notifyCondition_notified]
  by_cases h : (hasFlag s.params.reportMask d.bit || hasFlag s.link.notified d.bit) = true
  · rw [if_pos h]
    by_cases hcd : c = d
    · subst hcd
      rcases Bool.or_eq_true_iff.1 h with h | h <;> simp [h]
    · simp [hcd]
  · rw [if_neg h]
    have hm : hasFlag s.params.reportMask d.bit = false :=
      (Bool.or_eq_false_iff.1 (Bool.eq_false_iff.2 h)).1
    simp [hm]

theorem hasFlag_notified_raise (c d : Condition) (s : State) :
    hasFlag (raise d s).link.notified c.bit =
      (hasFlag s.link.notified c.bit || (decide (c = d) && !hasFlag s.params.reportMask d.bit)) :=
  hasFlag_notified_notify c d _

/-! ## Raising the conditions whose cause holds (R185) -/

/-- The level conditions of a set whose cause still holds. -/
def heldConditions (set : Byte) (s : State) (cs : List Condition) : List Condition :=
  cs.filter fun c => hasFlag set c.bit && c.isLevel && causeHolds s c

theorem raiseHeld_eq (set : Byte) (cs : List Condition) (s : State) :
    raiseHeld set cs s = (heldConditions set s cs).foldl (fun s c => raise c s) s := by
  induction cs generalizing s with
  | nil => rfl
  | cons c cs ih =>
    have hheld : heldConditions set (raise c s) cs = heldConditions set s cs := by
      simp only [heldConditions, causeHolds_raise]
    have hstep : raiseHeld set (c :: cs) s =
        raiseHeld set cs (if hasFlag set c.bit && c.isLevel && causeHolds s c then raise c s else s) := rfl
    rw [hstep, ih]
    by_cases h : (hasFlag set c.bit && c.isLevel && causeHolds s c) = true
    · rw [if_pos h, hheld, heldConditions, heldConditions, List.filter_cons, if_pos h]
      rfl
    · rw [if_neg h, heldConditions, heldConditions, List.filter_cons, if_neg h]

theorem foldl_raise_link (cs : List Condition) (s : State) :
    cs.foldl (fun s c => raise c s) s = { s with link := (cs.foldl (fun s c => raise c s) s).link } := by
  induction cs generalizing s with
  | nil => rfl
  | cons c cs ih => rw [List.foldl_cons, ih, raise_link]

theorem hasFlag_pending_foldl (cs : List Condition) (c : Condition) (s : State) :
    hasFlag (cs.foldl (fun s c => raise c s) s).link.conditionsPending c.bit =
      (hasFlag s.link.conditionsPending c.bit || decide (c ∈ cs)) := by
  induction cs generalizing s with
  | nil => simp
  | cons d cs ih => simp [ih, raise_pending, Bool.or_assoc]

theorem hasFlag_notified_foldl (cs : List Condition) (c : Condition) (s : State) :
    hasFlag (cs.foldl (fun s c => raise c s) s).link.notified c.bit =
      (hasFlag s.link.notified c.bit || (decide (c ∈ cs) && !hasFlag s.params.reportMask c.bit)) := by
  induction cs generalizing s with
  | nil => simp
  | cons d cs ih =>
    rw [List.foldl_cons, ih, hasFlag_notified_raise, raise_params]
    by_cases hcd : c = d
    · subst hcd
      cases hasFlag s.params.reportMask c.bit <;> simp
    · simp [hcd]

theorem causeHolds_isLevel {c : Condition} {s : State} (h : causeHolds s c = true) : c.isLevel = true := by
  revert h
  cases c <;> simp [causeHolds, Condition.isLevel]

theorem mem_heldConditions (set : Byte) (s : State) (c : Condition) :
    c ∈ heldConditions set s allConditions ↔ hasFlag set c.bit = true ∧ causeHolds s c = true := by
  have hall : c ∈ allConditions := by cases c <;> decide
  simp only [heldConditions, List.mem_filter, hall, true_and, Bool.and_eq_true, and_assoc]
  exact ⟨fun ⟨h1, _, h3⟩ => ⟨h1, h3⟩, fun ⟨h1, h3⟩ => ⟨h1, causeHolds_isLevel h3, h3⟩⟩

/-! ## A change of the report mask (R184) -/

theorem notifyUnmasked_eq (old new : Byte) (cs : List Condition) (s : State) :
    notifyUnmasked old new cs s =
      (cs.filter fun c => hasFlag s.link.conditionsPending c.bit && hasFlag old c.bit && !hasFlag new c.bit).foldl
        (fun s c => notifyCondition c s) s := by
  induction cs generalizing s with
  | nil => rfl
  | cons c cs ih =>
    have hstep : notifyUnmasked old new (c :: cs) s = notifyUnmasked old new cs
        (if hasFlag s.link.conditionsPending c.bit && hasFlag old c.bit && !hasFlag new c.bit then
          notifyCondition c s else s) := rfl
    rw [hstep, ih, List.filter_cons]
    split
    · rw [(notifyCondition_kept c s).1]; rfl
    · rfl

theorem foldl_notify_link (cs : List Condition) (s : State) :
    cs.foldl (fun s c => notifyCondition c s) s =
      { s with link := (cs.foldl (fun s c => notifyCondition c s) s).link } := by
  induction cs generalizing s with
  | nil => rfl
  | cons c cs ih => rw [List.foldl_cons, ih, notifyCondition_link]

/-- The pending conditions that a change of mask unmasks, where the change's set is empty or one condition's. -/
theorem unmasked_filter (pending old new : Byte) :
    allConditions.filter (fun c => hasFlag pending c.bit && hasFlag old c.bit && !hasFlag new c.bit) =
      allConditions.filter fun c => hasFlag (pending &&& old &&& ~~~new) c.bit := by
  simp only [hasFlag_without (pending &&& old), hasFlag_and pending old]

theorem filter_bit (c : Condition) : (allConditions.filter fun d => hasFlag c.bit d.bit) = [c] := by
  cases c <;> rfl

/-! ## The requests -/

/-- The set value of the first condition of a list that a set holds, or 00h. -/
def firstHeld (set : Byte) (cs : List Condition) : Byte :=
  ((cs.find? fun c => hasFlag set c.bit).map Condition.bit).getD 0

theorem topCondition_firstHeld (set : Byte) : topCondition set = firstHeld set allConditions := by
  unfold topCondition firstHeld
  split
  case h_1 c hc => simp [hc]
  case h_2 hc => simp [hc]

theorem firstHeld_cons (set : Byte) (c : Condition) (cs : List Condition) :
    firstHeld set (c :: cs) = if set &&& c.bit ≠ 0 then c.bit else firstHeld set cs := by
  by_cases h : hasFlag set c.bit = true
  · rw [if_pos (hasFlag_eq_true.1 h), firstHeld, List.find?_cons_of_pos (p := fun c : Condition => hasFlag set c.bit) h]
    rfl
  · rw [if_neg (mt hasFlag_eq_true.2 h), firstHeld, List.find?_cons_of_neg (p := fun c : Condition => hasFlag set c.bit) h]
    rfl

/-- The highest-priority condition of a set, by the order of section 11.4 (R185). -/
theorem topCondition_eq (pending : Byte) :
    topCondition pending =
      if pending &&& 0x01 ≠ 0 then 0x01 else if pending &&& 0x02 ≠ 0 then 0x02
      else if pending &&& 0x04 ≠ 0 then 0x04 else if pending &&& 0x08 ≠ 0 then 0x08
      else if pending &&& 0x10 ≠ 0 then 0x10 else if pending &&& 0x20 ≠ 0 then 0x20
      else if pending &&& 0x40 ≠ 0 then 0x40 else 0x00 := by
  rw [topCondition_firstHeld, allConditions]
  simp only [firstHeld_cons]
  rfl

/-- CONDITION_CLEAR leaves each named condition exactly where its cause still holds (R185). -/
theorem askConditionClear_eq (r : Request) {set : Byte} (h : set &&& 0x80 = 0) (s : State) :
    askConditionClear r [set] s =
      let t := (heldConditions set s allConditions).foldl (fun s c => raise c s)
        (s.mapLink fun l => l.clearConditions set)
      answer r .ok [t.link.conditionsPending] t := by
  have hset : hasFlag (byteAt [set] 0) 0x80 = false := hasFlag_eq_false.2 h
  simp only [askConditionClear, hset, raiseHeld_eq]
  rfl

theorem askSetReportMask_eq (r : Request) {set : Byte} (h : set &&& 0x80 = 0) (s : State) :
    askSetReportMask r [set] s =
      answerParam r 0x0D [set]
        ((allConditions.filter fun c =>
            hasFlag (s.link.conditionsPending &&& s.params.reportMask &&& ~~~set) c.bit).foldl
          (fun s c => notifyCondition c s) (s.mapParams fun p => { p with reportMask := set })) := by
  simp only [askSetReportMask, hasFlag_eq_false.2 h, notifyUnmasked_eq]
  rw [← unmasked_filter]
  rfl

theorem askConditionClear_refused (r : Request) {set : Byte} (h : set &&& 0x80 ≠ 0) (s : State) :
    askConditionClear r [set] s = answer r .badValue [] s :=
  if_pos (hasFlag_eq_true.2 h)

theorem askSetReportMask_refused (r : Request) {set : Byte} (h : set &&& 0x80 ≠ 0) (s : State) :
    askSetReportMask r [set] s = answer r .badValue [] s :=
  if_pos (hasFlag_eq_true.2 h)

/-- A raise, by whether its condition is to be notified and whether there is notice space (R184). -/
theorem raise_conditions (c : Condition) (s : State) :
    let t := raise c s
    let pending := s.link.conditionsPending ||| c.bit
    (s.params.reportMask &&& c.bit ≠ 0 ∨ s.link.notified &&& c.bit ≠ 0 →
      t = { s with link := { s.link with conditionsPending := pending } }) ∧
    (s.params.reportMask &&& c.bit = 0 → s.link.notified &&& c.bit = 0 →
      (s.link.notices.length < 40 →
        t = { s with link := { s.link with
          conditionsPending := pending, notified := s.link.notified ||| c.bit
          queue := s.link.queue ++ [⟨false, frameBytes 0x42 0 [c.bit, pending, s.params.reportMask], 0, s.now⟩]
          attn := t.link.attn } } ∧ t.link.attn = attnWanted t) ∧
      (40 ≤ s.link.notices.length →
        t = { s with link := { s.link with
          conditionsPending := pending, notified := s.link.notified ||| c.bit
          notifyPending := s.link.notifyPending ||| c.bit } })) := by
  refine ⟨fun h => notifyCondition_quiet h, fun hm hn => ⟨fun hroom => ?_, fun hroom => ?_⟩⟩
  · have e : raise c s = queueCondition c (State.mapLink _ _) := notifyCondition_queued hm hn hroom
    dsimp only
    rw [e]
    exact ⟨rfl, rfl⟩
  · exact notifyCondition_deferred hm hn hroom

theorem answer_conditionsPending (r : Request) (code : ReplyCode) (fields : List Byte) (s : State) :
    (answer r code fields s).link.conditionsPending = s.link.conditionsPending := by
  rw [answer_eq]
  rfl

theorem answer_notified (r : Request) (code : ReplyCode) (fields : List Byte) (s : State) :
    (answer r code fields s).link.notified = s.link.notified := by
  rw [answer_eq]
  rfl

/-- The causes of section 11.4, written out. -/
theorem causeHolds_portFault (s : State) :
    causeHolds s .portFault = (s.feeds.port1.lineFault || s.feeds.port2.lineFault || s.feeds.port3.lineFault ||
      s.feeds.port4.lineFault) := by
  simp [causeHolds, viewerPorts, Feeds.port, Bool.or_assoc]

theorem heldConditions_eq_nil {set : Byte} {s : State}
    (h : ∀ c : Condition, hasFlag set c.bit = true → causeHolds s c = false) :
    heldConditions set s allConditions = [] := by
  rw [List.eq_nil_iff_forall_not_mem]
  intro c hc
  obtain ⟨h1, h2⟩ := (mem_heldConditions set s c).1 hc
  exact absurd (h c h1) (by simp [h2])

/-- Settles O56. -/
theorem conditionsAreClearedAndMasked : Obligations.ConditionsAreClearedAndMasked := by
  refine ⟨fun c s => raise_conditions c s, ?_⟩
  intro tag set s hs pending mask top holds named
  have hholds (c : Condition) : causeHolds s c = holds c := by
    cases c
    case portFault => exact causeHolds_portFault s
    all_goals rfl
  have clear := exec_serves (c := .conditionClear tag [set]) hs rfl rfl
  have setMask := exec_serves (c := .setReportMask tag [set]) hs rfl rfl
  refine ⟨?query, fun h => ⟨?clearRefused, ?maskRefused⟩, fun h => ⟨?clear, ?mask⟩⟩
  case query =>
    rw [exec_serves hs rfl rfl, askConditionQuery, answer_taken_answering]
    simp only [State.mapLink_params, topCondition_eq]
    rfl
  case clearRefused =>
    rw [clear, askConditionClear_refused _ h, answer_taken_answering]
    rfl
  case maskRefused =>
    rw [setMask, askSetReportMask_refused _ h, answer_taken_answering]
    rfl
  case clear =>
    rw [clear, askConditionClear_eq _ h]
    have hmem (c : Condition) :
        decide (c ∈ heldConditions set (s.mapLink Link.withTaken) allConditions) = (named c && holds c) := by
      rw [← hholds, Bool.eq_iff_iff, decide_eq_true_iff, Bool.and_eq_true]
      exact mem_heldConditions set s c
    refine ⟨_, rfl, ?_, fun c => ⟨?_, ?_⟩, ?_, fun hnone => ?_⟩
    · dsimp only
      rw [answer_eq, foldl_raise_link]
      rfl
    · rw [answer_conditionsPending, hasFlag_pending_foldl, hmem]
      show (hasFlag (pending &&& ~~~set) c.bit || _) = _
      rw [hasFlag_without]
      show (hasFlag pending c.bit && !named c || named c && holds c) = _
      cases named c <;> simp
    · rw [answer_notified, hasFlag_notified_foldl, hmem]
      show (hasFlag (s.link.notified &&& ~~~set) c.bit || named c && holds c && !(mask &&& c.bit != 0)) = _
      rw [hasFlag_without]
      show (hasFlag s.link.notified c.bit && !named c || _) = _
      cases named c <;> simp [bne]
    · rw [answer_eq, foldl_raise_link]
      exact List.getLast?_concat
    · have hheld : heldConditions set (s.mapLink Link.withTaken) allConditions = [] :=
        heldConditions_eq_nil (s := s) fun c hc => (hholds c).trans (hnone c hc)
      rw [hheld]
      dsimp only [List.foldl_nil]
      rw [answer_eq]
      rfl
  case mask =>
    rw [setMask, askSetReportMask_eq _ h]
    refine ⟨_, rfl, ?_, fun hnone => ?_, fun c hone hn hroom => ?_⟩
    · rw [answerParam, answer_eq, foldl_notify_link]
      rfl
    · have hfilter : (allConditions.filter fun c => hasFlag (pending &&& mask &&& ~~~set) c.bit) = [] := by
        rw [hnone]; rfl
      show (answerParam _ _ _
        (List.foldl _ _ (allConditions.filter fun c => hasFlag (pending &&& mask &&& ~~~set) c.bit))).link = _
      rw [hfilter, answerParam, answer_eq]
      rfl
    · have hunmasked : set &&& c.bit = 0 := by
        have := hasFlag_without (pending &&& mask) set c
        rw [hone, hasFlag_bit_bit] at this
        rw [← hasFlag_eq_false]
        simpa using (Bool.and_eq_true_iff.1 (this.symm.trans (decide_eq_true rfl))).2
      have hnotify := notifyCondition_queued (c := c)
        (s := (s.mapLink Link.withTaken).mapParams fun p => { p with reportMask := set }) hunmasked hn hroom
      show (answerParam _ _ _
        (List.foldl _ _ (allConditions.filter fun c => hasFlag (pending &&& mask &&& ~~~set) c.bit))).link = _
      rw [hone, filter_bit, List.foldl_cons, List.foldl_nil, hnotify, answerParam, answer_eq]
      rfl

end Sys2Proof.Machine
end

section
/-! PROOFS. Departing messages and port 0's choices (R127, R128, R131, R179, R182). -/

namespace Sys2Proof.Machine

/-! ## Port 0's choices -/

/-- Port 0 chooses a frame: it may choose, and has one to send (R127, R128). -/
def portZeroSends (s : State) : Bool := mayChoose s .p0 && (frameFor s .p0).isSome

theorem chooseRun_stop {s : State} (h : portZeroSends s = false) (n : Nat) : chooseRun n s = s := by
  cases n with
  | zero => rfl
  | succ n => exact if_neg (by rw [← portZeroSends, h]; decide)

theorem choosePortZero_stop {s : State} (h : portZeroSends s = false) : choosePortZero s = s := chooseRun_stop h _

theorem choose_none {s : State} {i : PortId} (h : mayChoose s i = false ∨ frameFor s i = none) : choose i s = s := by
  unfold choose
  rcases h with h | h
  · rw [if_neg (by simp [h])]
  · rw [h]; split <;> rfl

theorem choose_some {s : State} {i : PortId} {f : FeedFrame} (hmay : mayChoose s i = true)
    (hf : frameFor s i = some f) : choose i s = takeFrame i f s := by
  unfold choose
  rw [if_pos hmay, hf]

theorem chooseRun_step {s : State} {f : FeedFrame} (hmay : mayChoose s .p0 = true) (hf : frameFor s .p0 = some f)
    (n : Nat) : chooseRun (n + 1) s = chooseRun n (takeFrame .p0 f s) := by
  rw [chooseRun, if_pos (by simp [hmay, hf]), choose_some hmay hf]

/-- A port 0 frame adds one notice to the queue. -/
theorem takeFrame_p0_notices (f : FeedFrame) (s : State) :
    (takeFrame .p0 f s).link.notices.length = s.link.notices.length + 1 := by
  simp [takeFrame, enqueue, testAttn, State.mapLink, State.mapFeeds, Link.notices]

theorem portZeroSends_noSpace {s : State} (h : 40 ≤ s.link.notices.length) : portZeroSends s = false := by
  have hspace : s.link.noticeSpace = false := decide_eq_false (Nat.not_lt.2 h)
  simp [portZeroSends, mayChoose, hspace]

theorem portZeroSends_iff (s : State) :
    portZeroSends s = true ↔ mayChoose s .p0 = true ∧ ∃ f, frameFor s .p0 = some f := by
  simp [portZeroSends, Option.isSome_iff_exists]

/-- With as many choices as the queue has places for, port 0 goes on until it has nothing to send (R127). -/
theorem chooseRun_ends (n : Nat) (s : State) (h : 40 ≤ n + s.link.notices.length) :
    portZeroSends (chooseRun n s) = false := by
  induction n generalizing s with
  | zero => exact portZeroSends_noSpace (by rw [Nat.zero_add] at h; exact h)
  | succ n ih =>
    cases hs : portZeroSends s with
    | false => rw [chooseRun_stop hs, hs]
    | true =>
      obtain ⟨hmay, f, hf⟩ := (portZeroSends_iff s).1 hs
      rw [chooseRun_step hmay hf]
      exact ih _ (by rw [takeFrame_p0_notices]; omega)

theorem choosePortZero_ends (s : State) : portZeroSends (choosePortZero s) = false :=
  chooseRun_ends _ s (by simp [Config.noticePlaces])

/-- A port 0 that has credit for one frame takes that one. -/
theorem choosePortZero_once {s : State} {f : FeedFrame} (hmay : mayChoose s .p0 = true) (hf : frameFor s .p0 = some f)
    (hcredit : (s.feeds.port0.take f).credit < 100) : choosePortZero s = takeFrame .p0 f s := by
  have hstop : portZeroSends (takeFrame .p0 f s) = false := by
    have hlow : ((takeFrame .p0 f s).feeds.port .p0).credit < 100 := hcredit
    simp [portZeroSends, mayChoose, Nat.not_le.2 hlow]
  exact (chooseRun_step hmay hf 39).trans (chooseRun_stop hstop 39)

/-- The credit after a frame is taken is less by its cost (R126). -/
theorem Port.take_credit (p : Port) (f : FeedFrame) : (p.take f).credit = p.credit - f.cost := by
  cases f <;> rfl

/-! ## The frames of R128's list -/

section
variable {s : State} {i : PortId}

theorem frameFor_refreshing (h : (s.feeds.port i).state = .refreshing) :
    frameFor s i = some (.clear (refreshPoint s i)) := if_pos h

theorem frameFor_retract (h : (s.feeds.port i).state ≠ .refreshing)
    (hv : (s.feeds.port i).valid < (s.feeds.port i).displayed) :
    frameFor s i =
      some (.retract ((s.feeds.port i).displayed - (s.feeds.port i).valid) (s.feeds.port i).valid) := by
  simp only [frameFor, if_neg h, if_pos hv]

theorem frameFor_append (h : (s.feeds.port i).state ≠ .refreshing)
    (hv : (s.feeds.port i).displayed ≤ (s.feeds.port i).valid) (ht : (s.feeds.port i).displayed < target s i) :
    frameFor s i = some (.append (s.feeds.port i).displayed (readStream s (s.feeds.port i).displayed
      (min (min (target s i - (s.feeds.port i).displayed) 32) ((s.feeds.port i).credit / 100)))) := by
  simp only [frameFor, if_neg h, if_neg (Nat.not_lt.2 hv), if_pos ht]

/-- With no text to send, a port on a LIVE profile tells how far the text that it shows has settled. -/
theorem frameFor_shown (h : (s.feeds.port i).state ≠ .refreshing)
    (hv : (s.feeds.port i).displayed ≤ (s.feeds.port i).valid) (ht : target s i ≤ (s.feeds.port i).displayed) :
    frameFor s i =
      let known := min s.stream.settled (s.feeds.port i).displayed
      let delta := min (known - (s.feeds.port i).settledSent) 65535
      if (s.feeds.profileOf i).mode = .live ∧ (s.feeds.port i).settledSent < known then
        some (.settle delta ((s.feeds.port i).settledSent + delta))
      else none := by
  simp only [frameFor, if_neg h, if_neg (Nat.not_lt.2 hv), if_neg (Nat.not_lt.2 ht)]

end

/-- A port's target is the stream's end on a LIVE profile, and the settled point on a SETTLED one (R116). -/
theorem target_eq (s : State) (i : PortId) :
    target s i = if (s.feeds.profileOf i).mode = .live then s.stream.length else s.stream.settled := by
  unfold target
  split
  case h_1 h => rw [h, if_pos rfl]
  case h_2 h => rw [h, if_neg (by decide)]

/-- The EDIT notice of a frame, field by field (R131, R132). -/
def FeedFrame.editFields (unrecordedPoint : Option Nat) : FeedFrame → Byte × Byte × Nat × List Byte
  | .clear r => (0x01, 0, r, [])
  | .retract _ newEnd => (0x02, 0, newEnd, [])
  | .append start bytes => (0x03, 0, start, bytes)
  | .settle _ newSent =>
    (0x04, if unrecordedPoint.any (fun u => decide (u < newSent)) then 0x01 else 0x00, newSent, [])

/-- An EDIT notice's payload from its fields (R181). -/
def editNotice (job : Nat) (fields : Byte × Byte × Nat × List Byte) : List Byte :=
  [fields.1, fields.2.1] ++ be16 job ++ be32 fields.2.2.1 ++ [BitVec.ofNat 8 fields.2.2.2.length] ++ fields.2.2.2

theorem FeedFrame.editPayload_eq (job : Nat) (unrecordedPoint : Option Nat) (f : FeedFrame) :
    f.editPayload job unrecordedPoint = editNotice job (f.editFields unrecordedPoint) := by
  cases f
  case settle delta newSent =>
    simp only [editPayload, editNotice, editFields, List.append_nil]
    rfl
  all_goals
    simp only [editPayload, editNotice, editFields, List.append_nil]
    rfl

/-! ## The deferred notices -/

theorem offerDeferred_nothing (cs : List Condition) (s : State) (h : s.link.notifyPending = 0) :
    offerDeferred cs s = s := by
  induction cs with
  | nil => rfl
  | cons c cs ih => rw [offerDeferred, if_neg (by simp [h]), ih]

/-- One deferred notice claims the space (R182). -/
theorem offerDeferred_one {c : Condition} {cs : List Condition} {s : State} (hc : c ∈ cs)
    (h : s.link.notifyPending = c.bit) (hspace : s.link.noticeSpace = true) :
    offerDeferred cs s = queueCondition c (s.mapLink fun l => { l with notifyPending := 0 }) := by
  induction cs with
  | nil => simp at hc
  | cons d cs ih =>
    by_cases hd : c = d
    · subst hd
      have hcleared : c.bit &&& ~~~c.bit = 0 := by simp
      rw [offerDeferred, if_pos (by simp [h, hspace])]
      rw [offerDeferred_nothing]
      · simp only [State.mapLink, h, hcleared]
      · exact (congrArg (· &&& ~~~c.bit) h).trans hcleared
    · rw [offerDeferred, if_neg (by simp [h, Ne.symm hd])]
      exact ih ((List.mem_cons.1 hc).resolve_left hd)

/-! ## Departures -/

theorem exec_messageDeparture {s : State} {m : Message} {rest : List Message} (h : s.link.queue = m :: rest) :
    exec .messageDeparture s = .next (departHead m s) := by
  simp only [exec, execMessageDeparture, h]

/-- The part with its head message gone, before the freed place is offered. -/
def State.departed (s : State) (m : Message) (rest : List Message) : State :=
  { s with link := { s.link with
      queue := rest, sdo := m.bytes.getLastD 0
      outstanding := if m.isReply then s.link.outstanding - 1 else s.link.outstanding } }

theorem departHead_eq {s : State} {m : Message} {rest : List Message} (h : s.link.queue = m :: rest) :
    departHead m s =
      testAttn (if m.isReply then s.departed m rest else noticeSpaceFreed (s.departed m rest)) := by
  simp only [departHead, State.departed, State.mapLink, h, List.drop_succ_cons, List.drop_zero]

/-- Nothing claims the place: no notice is deferred, and port 0 has nothing to send or may not. -/
theorem noticeSpaceFreed_none {s : State} (h : s.link.notifyPending = 0) (hz : portZeroSends s = false) :
    noticeSpaceFreed s = s := by
  rw [noticeSpaceFreed, offerDeferred_nothing _ _ h, choosePortZero_stop hz]

theorem portZeroSends_hold {s : State} (h : (s.feeds.profile s.feeds.port0.profile).hold = true) :
    portZeroSends s = false := by
  have hhold : (s.feeds.profileOf .p0).hold = true := h
  simp [portZeroSends, mayChoose, hhold]

theorem mayChoose_p0_departed {s : State} {m : Message} {rest : List Message}
    (hroom : (rest.filter fun x => !x.isReply).length < 40)
    (hstate : s.feeds.port0.active = true) (hhold : (s.feeds.profile s.feeds.port0.profile).hold = false)
    (hframe : s.feeds.port0.frame = none) (hcredit : 100 ≤ s.feeds.port0.credit) :
    mayChoose (s.departed m rest) .p0 = true := by
  have hspace : (s.departed m rest).link.noticeSpace = true := decide_eq_true hroom
  have hhold' : ((s.departed m rest).feeds.profileOf .p0).hold = false := hhold
  have hactive : ((s.departed m rest).feeds.port .p0).active = true := hstate
  have hframe' : ((s.departed m rest).feeds.port .p0).frame = none := hframe
  have hcredit' : 100 ≤ ((s.departed m rest).feeds.port .p0).credit := hcredit
  simp [mayChoose, hspace, hhold', hactive, hframe', hcredit']

/-- A notice's place is taken by a port 0 with credit for one frame, as one EDIT notice. -/
theorem departHead_edit {s : State} {m : Message} {rest : List Message} {f : FeedFrame}
    (h : s.link.queue = m :: rest) (hnotice : m.isReply = false) (hnp : s.link.notifyPending = 0)
    (hmay : mayChoose (s.departed m rest) .p0 = true) (hf : frameFor s .p0 = some f)
    (hcredit : (s.feeds.port0.take f).credit < 100) :
    departHead m s = testAttn { s with
      feeds := { s.feeds with port0 := s.feeds.port0.take f }
      link := { s.link with
        queue := rest ++ [⟨false, frameBytes noticeEdit 0
          (editNotice s.job.number (f.editFields s.stream.unrecordedPoint)), 0, s.now⟩]
        sdo := m.bytes.getLastD 0 } } := by
  rw [departHead_eq h, hnotice, noticeSpaceFreed, offerDeferred_nothing _ (s.departed m rest) hnp,
    choosePortZero_once hmay (show frameFor (s.departed m rest) .p0 = some f from hf) hcredit,
    ← FeedFrame.editPayload_eq]
  simp only [State.departed, hnotice]
  rfl

/-- Settles O54. -/
theorem messagesDepart : Obligations.MessagesDepart := by
  intro s
  refine ⟨fun h => ⟨?_, ?_⟩, ?_⟩
  · simp only [exec, execMessageDeparture, h]
  · simp only [exec, execByteClockedOut]
    split
    case h_1 => rfl
    case h_2 hq => simp [h] at hq
  intro m rest h sdo p profile target known sent clearAt spent unrecorded edit departs
  have hdep := (exec_messageDeparture h).trans (congrArg Host.Outcome.next (departHead_eq h))
  refine ⟨fun hmore => ?more, fun hlast => ?last, fun hnone => ?nothing,
    fun hnotice hroom => ⟨fun c hc hhold => ?deferred, fun hnp hhold hframe hc1 hc2 => ?portZero⟩,
    fun hnotice => ?ends⟩
  case more =>
    simp only [exec, execByteClockedOut, h]
    rw [if_pos hmore]
    rfl
  case last =>
    rw [exec_messageDeparture h]
    simp only [exec, execByteClockedOut, h]
    rw [if_neg (Nat.not_lt.2 hlast)]
  case nothing =>
    refine ⟨_, hdep, ?_, rfl⟩
    rcases hnone with hreply | ⟨hnp, hhold⟩
    · rw [if_pos hreply]; rfl
    · rw [noticeSpaceFreed_none (s := s.departed m rest) hnp (portZeroSends_hold hhold), ite_self]; rfl
  case deferred =>
    have hspace : (s.departed m rest).link.noticeSpace = true := decide_eq_true hroom
    have hcs : c ∈ allConditions := by cases c <;> decide
    refine ⟨_, hdep, ?_, rfl⟩
    have hstop := choosePortZero_stop (portZeroSends_hold
      (s := queueCondition c ((s.departed m rest).mapLink fun l => { l with notifyPending := 0 })) hhold)
    rw [hnotice, noticeSpaceFreed, offerDeferred_one hcs (s := s.departed m rest) hc hspace, hstop]
    simp only [State.departed, hnotice]
    rfl
  case portZero =>
    have unmarked {q : Port} {more : List Message} (hd : departs q more s.link.notifyPending) : departs q more 0 :=
      hnp ▸ hd
    have may (hactive : p.active = true) := mayChoose_p0_departed (m := m) hroom hactive hhold hframe hc1
    have htarget : target = Machine.target s .p0 := (target_eq s .p0).symm
    have following (hs : p.state = .following) : p.state ≠ .refreshing := by simp [hs]
    have sends {f : FeedFrame} (hactive : p.active = true) (hf : frameFor s .p0 = some f) (hcost : f.cost = 100) :
        departs (p.take f) [⟨false, frameBytes 0x41 0
          (editNotice s.job.number (f.editFields s.stream.unrecordedPoint)), 0, s.now⟩] 0 := by
      have hcredit : (p.take f).credit < 100 := by rw [Port.take_credit, hcost]; omega
      exact unmarked ⟨_, (exec_messageDeparture h).trans
        (congrArg Host.Outcome.next (departHead_edit h hnotice hnp (may hactive) hf hcredit)), rfl, rfl⟩
    refine ⟨fun hs => ?clear, fun hs hv => ?retract, fun hs hv ht b hb => ?append,
      fun hs hv ht => ⟨fun hl hk => ?settle, fun hor => ?none⟩⟩
    case clear => exact sends (by simp [Port.active, hs]) (frameFor_refreshing hs) rfl
    case retract => exact sends (by simp [Port.active, hs]) (frameFor_retract (following hs) hv) rfl
    case append =>
      have hn : min (min (target - p.displayed) 32) (p.credit / 100) = 1 := by omega
      have hf : frameFor s .p0 = some (.append p.displayed [b]) := by
        rw [← hb, ← hn, htarget]
        exact frameFor_append (s := s) (i := .p0) (following hs) hv (htarget ▸ ht)
      exact sends (by simp [Port.active, hs]) hf rfl
    case settle =>
      have hf := (frameFor_shown (s := s) (i := .p0) (following hs) hv (htarget ▸ ht)).trans (if_pos ⟨hl, hk⟩)
      exact sends (by simp [Port.active, hs]) hf rfl
    case none =>
      have hf : frameFor (s.departed m rest) .p0 = none := by
        refine (frameFor_shown (s := s) (i := .p0) (following hs) hv (htarget ▸ ht)).trans (if_neg fun ⟨hl, hk⟩ => ?_)
        rcases hor with hm | hk'
        · exact absurd (hm.symm.trans hl) (by decide)
        · exact absurd hk (Nat.not_lt.2 hk')
      have hz : portZeroSends (s.departed m rest) = false := by simp [portZeroSends, hf]
      refine unmarked ⟨_, hdep, ?_, rfl⟩
      rw [hnotice, noticeSpaceFreed_none (s := s.departed m rest) hnp hz, ite_self]
      simp only [State.departed, hnotice, List.append_nil]
      rfl
  case ends =>
    refine ⟨_, hdep, ?_⟩
    rw [hnotice]
    have hends := choosePortZero_ends (offerDeferred allConditions (s.departed m rest))
    rw [portZeroSends, Bool.and_eq_false_iff, Option.isSome_eq_false_iff, Option.isNone_iff_eq_none] at hends
    exact hends

end Sys2Proof.Machine
end

section
/-! PROOFS. The parameter store's requests (section 11.5). -/

namespace Sys2Proof.Machine

/-! ## One value stored and returned -/

/-- A SET_PARAM row whose owner stores a parameter store and returns a value, with nothing else changed. -/
theorem answerParam_stored (tag id : Byte) (value : List Byte) (p : Params) (s : State) :
    answerParam ⟨kindSetParam, tag⟩ id value ((s.mapLink Link.withTaken).mapParams fun _ => p) =
      { s with params := p, link := s.answered 0x03 tag (0x00 :: id :: value) } := by
  rw [answerParam, answer_eq]
  rfl

/-- The same where ATTN was tested for the new value: the reply asserts it (R183). -/
theorem answerParam_tested (tag id : Byte) (value : List Byte) (p : Params) (s : State) :
    answerParam ⟨kindSetParam, tag⟩ id value (testAttn ((s.mapLink Link.withTaken).mapParams fun _ => p)) =
      { s with params := p, link := s.answered 0x03 tag (0x00 :: id :: value) } := by
  rw [answerParam, answer_eq]
  rfl

theorem setByte_one (r : Request) (id b : Byte) (applied : Nat → Nat) (store : Nat → State → State) (s : State) :
    setByte r id [b] applied store s = answerParam r id (be8 (applied b.toNat)) (store (applied b.toNat) s) := rfl

theorem setByte_badLength (r : Request) (id : Byte) {value : List Byte} (h : value.length ≠ 1) (applied : Nat → Nat)
    (store : Nat → State → State) (s : State) : setByte r id value applied store s = answer r .badLength [] s := by
  match value, h with
  | [], _ => rfl
  | _ :: _ :: _, _ => rfl

theorem beValue_two (v1 v0 : Byte) : beValue [v1, v0] = v1.toNat * 256 + v0.toNat := by
  simp [beValue]

theorem boolCode_beq {b : Byte} (h : b.toNat ≤ 1) : boolCode (b == 1) = b := by
  have hb : b = 0 ∨ b = 1 := by bv_omega
  rcases hb with rfl | rfl <;> rfl

theorem askSetStrokeCopy_one (r : Request) (b : Byte) (s : State) :
    askSetStrokeCopy r [b] s =
      if b.toNat ≤ 1 then answerParam r 0x05 [b] (s.mapParams fun p => { p with strokeCopy := b == 1 })
      else answer r .badValue [] s := by
  by_cases h : b.toNat ≤ 1
  · simp only [askSetStrokeCopy, boolOf_inRange h, if_pos h, boolCode_beq h]
  · simp only [askSetStrokeCopy, boolOf_outOfRange (Nat.lt_of_not_le h), if_neg h]

theorem askSetTriggerLevel_one (r : Request) (b : Byte) (s : State) :
    askSetTriggerLevel r [b] s =
      if b.toNat = 1 ∨ b.toNat = 4 ∨ b.toNat = 8 ∨ b.toNat = 16 then
        answerParam r 0x08 [b] (testAttn (s.mapParams fun p => { p with trigger := b.toNat }))
      else answer r .badValue [] s := by
  have h : triggerLevel b.toNat = true ↔ b.toNat = 1 ∨ b.toNat = 4 ∨ b.toNat = 8 ∨ b.toNat = 16 := by
    simp [triggerLevel, or_assoc]
  simp only [askSetTriggerLevel, h]

/-! ## The journal's low threshold (R147) -/

theorem testJournalLow_above {s : State} (h : s.params.lowThreshold < s.journal.blankCount) : testJournalLow s = s :=
  if_neg (by simpa [causeHolds] using h)

theorem testJournalLow_low {s : State} (h : s.journal.blankCount ≤ s.params.lowThreshold) :
    testJournalLow s = raise .journalLow s :=
  if_pos (by simpa [causeHolds] using h)

/-- ATTN is wanted by the queue, the trigger level, the gather time and the clock. -/
theorem attnWanted_congr {s t : State} (hl : t.link = s.link) (hg : t.params.trigger = s.params.trigger)
    (hgather : t.params.gather = s.params.gather) (hn : t.now = s.now) : attnWanted t = attnWanted s := by
  simp only [attnWanted, hl, hg, hgather, hn]

theorem enqueue_congr (isReply : Bool) (kind tag : Byte) (payload : List Byte) {s t : State} (hl : t.link = s.link)
    (hg : t.params.trigger = s.params.trigger) (hgather : t.params.gather = s.params.gather) (hn : t.now = s.now) :
    (enqueue isReply kind tag payload t).link = (enqueue isReply kind tag payload s).link := by
  let queued (u : State) : State := u.mapLink fun l =>
    { l with queue := l.queue ++ [⟨isReply, frameBytes kind tag payload, 0, u.now⟩] }
  have hqueued : (queued t).link = (queued s).link := by simp only [queued, State.mapLink, hl, hn]
  show { (queued t).link with attn := attnWanted (queued t) } = { (queued s).link with attn := attnWanted (queued s) }
  rw [attnWanted_congr (s := queued s) (t := queued t) hqueued hg hgather hn, hqueued]

/-- A notice's raise reads the link controller, the link's parameters and the clock alone. -/
theorem notifyCondition_congr {c : Condition} {s t : State} (hl : t.link = s.link)
    (hm : t.params.reportMask = s.params.reportMask) (hg : t.params.trigger = s.params.trigger)
    (hgather : t.params.gather = s.params.gather) (hn : t.now = s.now) :
    (notifyCondition c t).link = (notifyCondition c s).link := by
  by_cases hquiet : s.params.reportMask &&& c.bit ≠ 0 ∨ s.link.notified &&& c.bit ≠ 0
  · rw [notifyCondition_quiet hquiet, notifyCondition_quiet (by rw [hm, hl]; exact hquiet), hl]
  · obtain ⟨hmask, hnotified⟩ := not_or.1 hquiet
    rw [Classical.not_not] at hmask hnotified
    by_cases hroom : s.link.notices.length < 40
    · rw [notifyCondition_queued hmask hnotified hroom,
        notifyCondition_queued (by rw [hm]; exact hmask) (by rw [hl]; exact hnotified) (by rw [hl]; exact hroom)]
      simp only [queueCondition, State.mapLink, hl, hm]
      exact enqueue_congr _ _ _ _ rfl hg hgather hn
    · rw [notifyCondition_deferred hmask hnotified (Nat.le_of_not_lt hroom),
        notifyCondition_deferred (by rw [hm]; exact hmask) (by rw [hl]; exact hnotified)
          (by rw [hl]; exact Nat.le_of_not_lt hroom)]
      simp only [State.mapLink, hl]

theorem raise_congr {c : Condition} {s t : State} (hl : t.link = s.link)
    (hm : t.params.reportMask = s.params.reportMask) (hg : t.params.trigger = s.params.trigger)
    (hgather : t.params.gather = s.params.gather) (hn : t.now = s.now) : (raise c t).link = (raise c s).link :=
  notifyCondition_congr (by simp only [State.mapLink, hl]) hm hg hgather hn

/-! ## Mark table entries (R75) -/

section
variable {number set flags : Byte} {text : List Byte}

/-- A mark table entry's value in a SET_PARAM request (R181). -/
def entryValue (number set flags : Byte) (text : List Byte) : List Byte :=
  [number, set, flags, BitVec.ofNat 8 text.length] ++ text

theorem markEntryOk_iff (flags : Byte) (text : List Byte) :
    markEntryOk ⟨flags, text⟩ = true ↔ text.length ≤ 32 ∧ flags &&& 0x87 = 0 ∧ text.all textByte = true := by
  simp only [markEntryOk, markFlagsValid, Bool.and_eq_true, decide_eq_true_eq, beq_iff_eq]
  exact ⟨fun ⟨⟨hlength, htext⟩, hflags⟩ => ⟨hlength, hflags, htext⟩,
    fun ⟨hlength, hflags, htext⟩ => ⟨⟨hlength, htext⟩, hflags⟩⟩

/-- A mark table entry whose text is as long as it says, by its number and its set byte (R75). -/
theorem askSetMarkTableEntry_eq (r : Request) (h : text.length ≤ 240) (s : State) :
    askSetMarkTableEntry r (entryValue number set flags text) s =
      if 15 < number.toNat then answer r .badValue [] s
      else
        match boolOf set with
        | none => answer r .badValue [] s
        | some false => answerParam r 0x0C (markValue number none) (storeMark number.toNat none s)
        | some true =>
          if markEntryOk ⟨flags, text⟩ then
            answerParam r 0x0C (markValue number (some ⟨flags, text⟩)) (storeMark number.toNat (some ⟨flags, text⟩) s)
          else answer r .badValue [] s := by
  have hlen : (BitVec.ofNat 8 text.length).toNat = text.length := by rw [BitVec.toNat_ofNat]; omega
  have hfits : ¬ ((entryValue number set flags text).length < 4 ∨
      (entryValue number set flags text).length ≠ 4 + (byteAt (entryValue number set flags text) 3).toNat) := by
    simp [entryValue, byteAt, hlen]
    omega
  unfold askSetMarkTableEntry
  rw [if_neg hfits]
  rfl

theorem askSetMarkTableEntry_set (r : Request) (h : text.length ≤ 240) (s : State) :
    askSetMarkTableEntry r (entryValue number 0x01 flags text) s =
      if number.toNat ≤ 15 ∧ text.length ≤ 32 ∧ flags &&& 0x87 = 0 ∧ text.all textByte = true then
        answerParam r 0x0C (entryValue number 0x01 flags text) (storeMark number.toNat (some ⟨flags, text⟩) s)
      else answer r .badValue [] s := by
  have hset : boolOf 0x01 = some true := rfl
  have hok := markEntryOk_iff flags text
  rw [askSetMarkTableEntry_eq r h, hset]
  by_cases hn : number.toNat ≤ 15
  · rw [if_neg (Nat.not_lt.2 hn)]
    dsimp only
    by_cases hentry : markEntryOk ⟨flags, text⟩ = true
    · rw [if_pos hentry, if_pos ⟨hn, hok.1 hentry⟩]
      rfl
    · rw [if_neg hentry, if_neg fun hand => hentry (hok.2 hand.2)]
  · rw [if_pos (Nat.lt_of_not_le hn), if_neg fun hand => hn hand.1]

theorem askSetMarkTableEntry_unset (r : Request) (h : text.length ≤ 240) (s : State) :
    askSetMarkTableEntry r (entryValue number 0x00 flags text) s =
      if number.toNat ≤ 15 then
        answerParam r 0x0C [number, 0x00, 0x00, 0x00] (storeMark number.toNat none s)
      else answer r .badValue [] s := by
  have hset : boolOf 0x00 = some false := rfl
  rw [askSetMarkTableEntry_eq r h, hset]
  by_cases hn : number.toNat ≤ 15
  · rw [if_neg (Nat.not_lt.2 hn), if_pos hn]
    rfl
  · rw [if_pos (Nat.lt_of_not_le hn), if_neg hn]

theorem askSetMarkTableEntry_refused (r : Request) (h : text.length ≤ 240) (hset : 1 < set.toNat) (s : State) :
    askSetMarkTableEntry r (entryValue number set flags text) s = answer r .badValue [] s := by
  rw [askSetMarkTableEntry_eq r h, boolOf_outOfRange hset, ite_self]

theorem askSetMarkTableEntry_badLength (r : Request) {value : List Byte}
    (h : value.length < 4 ∨ value.length ≠ 4 + (byteAt value 3).toNat) (s : State) :
    askSetMarkTableEntry r value s = answer r .badLength [] s := if_pos h

end

/-- Settles O58. -/
theorem parametersAreClampedAndStored : Obligations.ParametersAreClampedAndStored := by
  intro tag b v1 v0 number flags text s hs n v up pause stuck low stored refused entry
  have serve {c : Instr} {value : List Byte} {owner : Request → List Byte → State → State}
      (e : exec c s = .next (takeRequest kindSetParam tag value none owner s)) := exec_serves hs e rfl
  have refuse : answer ⟨kindSetParam, tag⟩ .badValue [] (s.mapLink Link.withTaken) = refused :=
    answer_taken_answering ..
  have hnext {a b : State} (h : a = b) : (Host.Outcome.next a : Result) = .next b := congrArg _ h
  refine ⟨?upLevel, ?debounce, ?stuckLimit, ?releaseGuard, ?strokeCopy, ?resolvePause, ?trigger, ?gather, fun h => ?lowAbove,
    fun h => ?lowRaises, fun h => ?markSet, fun h => ?markUnset, fun h hb => ?markRefused⟩
  case upLevel =>
    rw [serve rfl, askSetUpLevel, setByte_one, answerParam, answer_eq]
    rfl
  case debounce => exact (serve rfl).trans (hnext (answerParam_stored ..))
  case stuckLimit =>
    rw [serve rfl, askSetStuckLimit, if_neg (by simp), beValue_two]
    exact hnext (answerParam_stored ..)
  case releaseGuard =>
    have hclamp : clamp 0 40 n = min n 40 := by simp [clamp]
    rw [serve rfl, askSetReleaseGuard, setByte_one, hclamp]
    exact hnext (answerParam_stored ..)
  case strokeCopy =>
    rw [serve rfl, askSetStrokeCopy_one, refuse]
    split
    · exact hnext (answerParam_stored ..)
    · rfl
  case resolvePause =>
    rw [serve rfl, askSetResolvePause, if_neg (by simp), beValue_two]
    exact hnext (answerParam_stored ..)
  case trigger =>
    rw [serve rfl, askSetTriggerLevel_one, refuse]
    split
    · exact hnext (answerParam_tested ..)
    · rfl
  case gather => exact (serve rfl).trans (hnext (answerParam_tested ..))
  case lowAbove =>
    rw [serve rfl, askSetLowThreshold, setByte_one, testJournalLow_above h]
    exact hnext (answerParam_stored ..)
  case lowRaises =>
    rw [serve rfl, askSetLowThreshold, setByte_one, testJournalLow_low h, answerParam, answer_eq, raise_link]
    refine hnext ?_
    have hraise : (raise .journalLow ((s.mapLink Link.withTaken).mapParams fun p => { p with lowThreshold := low })).link =
        (raise .journalLow { s with link := s.link.withTaken }).link := raise_congr rfl rfl rfl rfl rfl
    rw [← hraise]
    rfl
  case markSet =>
    refine ((serve rfl).trans (hnext (askSetMarkTableEntry_set _ h _))).trans (hnext ?_)
    rw [refuse]
    split
    · exact answerParam_stored ..
    · rfl
  case markUnset =>
    refine ((serve rfl).trans (hnext (askSetMarkTableEntry_unset _ h _))).trans (hnext ?_)
    rw [refuse]
    split
    · exact answerParam_stored ..
    · rfl
  case markRefused => exact ((serve rfl).trans (hnext (askSetMarkTableEntry_refused _ h hb _))).trans (hnext refuse)

/-! ## Values that do not fit, and GET_PARAM -/

theorem askSetStrokeCopy_badLength (r : Request) {value : List Byte} (h : value.length ≠ 1) (s : State) :
    askSetStrokeCopy r value s = answer r .badLength [] s := by
  match value, h with
  | [], _ => rfl
  | _ :: _ :: _, _ => rfl

theorem askSetTriggerLevel_badLength (r : Request) {value : List Byte} (h : value.length ≠ 1) (s : State) :
    askSetTriggerLevel r value s = answer r .badLength [] s := by
  match value, h with
  | [], _ => rfl
  | _ :: _ :: _, _ => rfl

theorem askSetReportMask_badLength (r : Request) {value : List Byte} (h : value.length ≠ 1) (s : State) :
    askSetReportMask r value s = answer r .badLength [] s := by
  match value, h with
  | [], _ => rfl
  | _ :: _ :: _, _ => rfl

/-- GET_PARAM of an identifier other than the mark table's, by whether it has a value (R186). -/
theorem askGetParam_value (r : Request) {id : Byte} (number : Byte) (h : id ≠ 0x0C) (s : State) :
    askGetParam r [id, number] s =
      match paramValue s.params id.toNat with
      | some value => answerParam r id value s
      | none => answer r .badValue [] s := if_neg h

theorem askGetParam_mark (r : Request) (number : Byte) (s : State) :
    askGetParam r [0x0C, number] s =
      if 15 < number.toNat then answer r .badValue [] s
      else answerParam r 0x0C (markValue number (s.params.mark number.toNat)) s := by
  unfold askGetParam
  exact if_pos rfl

theorem paramValue_unknown {id : Byte} (p : Params) (h : id = 0 ∨ 0x0D < id.toNat) : paramValue p id.toNat = none := by
  unfold paramValue
  split
  case h_13 => rfl
  all_goals
    exfalso
    rcases h with rfl | h
    · simp_all
    · omega

/-- A reply gives the blocks nothing to do. -/
theorem runBlocks_answering {s : State} (hq : s.quiet) (kind tag : Byte) (payload : List Byte) :
    runBlocks (s.answering kind tag payload) = s.answering kind tag payload :=
  runBlocks_same (t := s.answering kind tag payload) hq rfl rfl rfl rfl rfl rfl rfl

/-- Settles O59. -/
theorem parametersAreRead : Obligations.ParametersAreRead := by
  intro tag id number value s hs p returned get
  have serve {c : Instr} {value : List Byte} {owner : Request → List Byte → State → State}
      (e : exec c s = .next (takeRequest kindSetParam tag value none owner s)) := exec_serves hs e rfl
  have hnext {a b : State} (h : a = b) : (Host.Outcome.next a : Result) = .next b := congrArg _ h
  have badLength : answer ⟨kindSetParam, tag⟩ .badLength [] (s.mapLink Link.withTaken) = s.answering 0x03 tag [0x04] :=
    answer_taken_answering ..
  have refused {c : Instr} {value : List Byte} {owner : Request → List Byte → State → State}
      (e : exec c s = .next (takeRequest kindSetParam tag value none owner s))
      (h : owner ⟨kindSetParam, tag⟩ value (s.mapLink Link.withTaken) =
        answer ⟨kindSetParam, tag⟩ .badLength [] (s.mapLink Link.withTaken)) :
      exec c s = .next (s.answering 0x03 tag [0x04]) := (serve e).trans (hnext (h.trans badLength))
  have hget : get = .next (askGetParam ⟨kindGetParam, tag⟩ [id, number] (s.mapLink Link.withTaken)) :=
    exec_serves hs rfl rfl
  have known {v : List Byte} (hid : id ≠ 0x0C) (hv : paramValue p id.toNat = some v) : get = .next (returned v) := by
    have hv' : paramValue (s.mapLink Link.withTaken).params id.toNat = some v := hv
    rw [hget, askGetParam_value _ _ hid, hv']
    exact hnext (answer_taken_answering ..)
  refine ⟨refused rfl rfl, ?unknown, fun h => ⟨?bytes, ?depth⟩, ?words, fun h ho ha => ?region, fun h => ?markEntry,
    ?_, ?_, ?_, ?_, ?_, ?_, ?_, ?_, ?_, ?_, ?_, ?mark, ?markAbove, ?_, ?getUnknown⟩
  case unknown => exact (serve rfl).trans (hnext (answer_taken_answering ..))
  case bytes =>
    intro c hc
    simp only [List.mem_cons, List.not_mem_nil, or_false] at hc
    rcases hc with rfl | rfl | rfl | rfl | rfl | rfl | rfl | rfl
    · exact refused rfl (setByte_badLength _ _ h ..)
    · exact refused rfl (setByte_badLength _ _ h ..)
    · exact refused rfl (setByte_badLength _ _ h ..)
    · exact refused rfl (askSetStrokeCopy_badLength _ h _)
    · exact refused rfl (askSetTriggerLevel_badLength _ h _)
    · exact refused rfl (setByte_badLength _ _ h ..)
    · exact refused rfl (setByte_badLength _ _ h ..)
    · exact refused rfl (askSetReportMask_badLength _ h _)
  case depth =>
    intro hq
    rw [serve rfl, askSetCorrectionDepth, setByte_badLength _ _ h, badLength,
      runBlocks_answering hq]
  case words =>
    intro h c hc
    simp only [List.mem_cons, List.not_mem_nil, or_false] at hc
    rcases hc with rfl | rfl
    · exact refused rfl (if_pos h)
    · exact refused rfl (if_pos h)
  case region =>
    have hpending : s.job.pendingAny = false := by simp [Job.pendingAny, ho, ha]
    refine refused rfl ?_
    unfold askSetJournalRegion
    rw [if_neg (by simp [hpending]), if_pos h]
  case markEntry => exact refused rfl (askSetMarkTableEntry_badLength _ h _)
  case mark =>
    rintro rfl hn
    have hmark : get = .next (returned (markValue number (p.mark number.toNat))) := by
      rw [hget, askGetParam_mark, if_neg (Nat.not_lt.2 hn)]
      exact hnext (answer_taken_answering ..)
    refine ⟨fun m hm => ?_, fun hm => ?_⟩
    · rw [hmark, Params.mark, hm]; rfl
    · rw [hmark, Params.mark, hm]; rfl
  case markAbove =>
    rintro rfl hn
    rw [hget, askGetParam_mark, if_pos hn]
    exact hnext (answer_taken_answering ..)
  case getUnknown =>
    intro h
    have hid : id ≠ 0x0C := by
      rintro rfl
      revert h
      decide
    rw [hget, askGetParam_value _ _ hid, State.mapLink_params, paramValue_unknown _ h]
    exact hnext (answer_taken_answering ..)
  all_goals
    rintro rfl
    exact known (by decide) rfl

end Sys2Proof.Machine
end

section
/-! PROOFS. Key sensing (sections 1.1 to 1.3): one channel at an evaluation, the evaluation, FAULT_CLEAR. -/

namespace Sys2Proof.Machine

/-! ## One channel at an evaluation (R4 to R8) -/

/-- A decision changes the channel's state (R6). -/
theorem decide_ne {c : Channel} {debounce stuckLimit : Nat} {st : ChannelState} {l : Option KeyFault}
    (h : c.decide debounce stuckLimit = some (st, l)) : st ≠ c.state := by
  rintro rfl
  unfold Channel.decide at h
  cases hs : c.state <;> simp only [hs, reduceCtorEq] at h <;> (repeat' split at h) <;> simp at h

theorem channelDecision_ne {p : Params} {c : Channel} {level : Byte} {st : ChannelState} {l : Option KeyFault}
    (h : channelDecision p c level = some (st, l)) : st ≠ c.state :=
  decide_ne (c := c.qualify p.upLevel level) h

/-- Whatever is decided, the level, the reading and the run length are those of the evaluation. -/
theorem evaluateChannel_timed (p : Params) (c : Channel) (level : Byte) :
    (evaluateChannel p c level).lastLevel = level ∧
      (evaluateChannel p c level).reading = classify p.upLevel c level ∧
      (evaluateChannel p c level).runLength =
        if classify p.upLevel c level = c.reading then min (c.runLength + 1) 65535 else 1 := by
  unfold evaluateChannel
  cases channelDecision p c level <;> exact ⟨rfl, rfl, rfl⟩

/-- Where nothing is decided, the state and the latch stay, and the dwell goes on (R5, R6). -/
theorem evaluateChannel_undecided {p : Params} {c : Channel} {level : Byte} (h : channelDecision p c level = none) :
    (evaluateChannel p c level).state = c.state ∧ (evaluateChannel p c level).latch = c.latch ∧
      (evaluateChannel p c level).dwell = min (c.dwell + 1) 65535 := by
  rw [evaluateChannel, h]
  exact ⟨rfl, rfl, rfl⟩

/-- A decision gives the state, starts the dwell and sets the latch it names (R5, R6). -/
theorem evaluateChannel_decided {p : Params} {c : Channel} {level : Byte} {st : ChannelState} {l : Option KeyFault}
    (h : channelDecision p c level = some (st, l)) :
    (evaluateChannel p c level).state = st ∧ (evaluateChannel p c level).latch = l.getD c.latch ∧
      (evaluateChannel p c level).dwell = 0 := by
  rw [evaluateChannel, h]
  exact ⟨rfl, rfl, rfl⟩

/-- The state stays exactly where nothing is decided. -/
theorem evaluateChannel_state_eq {p : Params} {c : Channel} {level : Byte} :
    (evaluateChannel p c level).state = c.state ↔ channelDecision p c level = none := by
  refine ⟨fun h => ?_, fun h => (evaluateChannel_undecided h).1⟩
  cases hd : channelDecision p c level with
  | none => rfl
  | some decided => exact absurd ((evaluateChannel_decided hd).1.symm.trans h) (channelDecision_ne hd)

/-- Settles O11. -/
theorem evaluationReadsEachChannel : Obligations.EvaluationReadsEachChannel := by
  intro p c level d
  obtain ⟨hlevel, hreading, hrun⟩ := evaluateChannel_timed p c level
  have hclass (r : Reading) (h : classify p.upLevel c level = r) : d.reading = r := hreading.trans h
  refine ⟨hlevel, fun h => hclass _ (if_pos h), fun h => hclass _ ?_, fun h1 h2 h3 => hclass _ ?_,
    fun h1 h2 h3 h4 => hclass _ ?_, fun h1 h2 h3 h4 => hclass _ ?_, fun h => ?_, fun h => ?_, fun h => ?_, fun h => ?_⟩
  · simp only [classify]
    rw [if_neg (by omega), if_pos h]
  · simp only [classify]
    rw [if_neg (by omega), if_neg (by omega), if_pos h3]
  · simp only [classify]
    rw [if_neg (by omega), if_neg (by omega), if_neg (by omega), if_pos h4]
  · simp only [classify]
    rw [if_neg (by omega), if_neg (by omega), if_neg (by omega), if_neg (by omega)]
    cases c.reading <;> rfl
  · exact hrun.trans (if_pos (hreading.symm.trans h))
  · exact hrun.trans (if_neg fun he => h (hreading.trans he))
  · exact (evaluateChannel_undecided (evaluateChannel_state_eq.1 h)).2.2
  · cases hd : channelDecision p c level with
    | none => exact absurd (evaluateChannel_state_eq.2 hd) h
    | some decided => exact (evaluateChannel_decided hd).2.2

/-- The new state and latch of a channel from what its decision is. -/
def Channel.decided (c : Channel) (decision : Option (ChannelState × Option KeyFault)) : ChannelState × KeyFault :=
  match decision with
  | none => (c.state, c.latch)
  | some (st, l) => (st, l.getD c.latch)

theorem evaluateChannel_pair (p : Params) (c : Channel) (level : Byte) :
    ((evaluateChannel p c level).state, (evaluateChannel p c level).latch) =
      c.decided (channelDecision p c level) := by
  cases hd : channelDecision p c level with
  | none =>
    obtain ⟨h1, h2, -⟩ := evaluateChannel_undecided hd
    rw [h1, h2]
    rfl
  | some decided =>
    obtain ⟨h1, h2, -⟩ := evaluateChannel_decided hd
    rw [h1, h2]
    rfl

theorem decided_ite (c : Channel) (p : Prop) [Decidable p] (a b : Option (ChannelState × Option KeyFault)) :
    c.decided (if p then a else b) = if p then c.decided a else c.decided b := by split <;> rfl

theorem decided_none (c : Channel) : c.decided none = (c.state, c.latch) := rfl

theorem decided_some (c : Channel) (st : ChannelState) (l : Option KeyFault) :
    c.decided (some (st, l)) = (st, l.getD c.latch) := rfl

/-- Settles O12: one case for each state that a channel can be in. -/
theorem evaluationDecisionsFollowTheTable : Obligations.EvaluationDecisionsFollowTheTable := by
  intro p c level d held forming cleared
  have hheld (r : Reading) : (c.qualify p.upLevel level).held p.debounce r = held r := by
    obtain ⟨-, hreading, hrun⟩ := evaluateChannel_timed p c level
    show _ = (d.reading == r && decide (p.debounce ≤ d.runLength))
    rw [show d.reading = _ from hreading, show d.runLength = _ from hrun]
    rfl
  have hdwell : (c.qualify p.upLevel level).dwell = min (c.dwell + 1) 65535 := rfl
  have hlatch : (c.qualify p.upLevel level).latch = c.latch := rfl
  have hstate : (c.qualify p.upLevel level).state = c.state := rfl
  rw [show (d.state, d.latch) = _ from evaluateChannel_pair p c level]
  simp only [channelDecision, Channel.decide, hheld, hdwell, hlatch, hstate, forming, cleared]
  have states : c.state = .up ∨ c.state = .down ∨ c.state = .stuck ∨ c.state = .openCircuit ∨
      c.state = .shortCircuit ∨ c.state = .disabled := by cases c.state <;> simp
  rcases states with hs | hs | hs | hs | hs | hs <;> simp [hs, decided_ite, decided_none, decided_some]

/-! ## The evaluation (R4, R13) -/

/-- A decision sets a latch exactly where the new state is neither UP nor DOWN (R6). -/
theorem decide_latches {c : Channel} {debounce stuckLimit : Nat} {st : ChannelState} {l : Option KeyFault}
    (h : c.decide debounce stuckLimit = some (st, l)) : l.isSome = true ↔ st ≠ .up ∧ st ≠ .down := by
  unfold Channel.decide at h
  cases hs : c.state <;> simp only [hs, reduceCtorEq] at h <;> (repeat' split at h) <;>
    simp only [Option.some.injEq, Prod.mk.injEq, reduceCtorEq] at h <;> obtain ⟨rfl, rfl⟩ := h <;> simp

/-- The decision sets a latch. -/
def latches (decision : Option (ChannelState × Option KeyFault)) : Bool :=
  match decision with
  | some (_, some _) => true
  | _ => false

/-- A channel's decision sets a latch exactly where it takes a state that is neither UP nor DOWN. -/
theorem latches_iff (p : Params) (c : Channel) (level : Byte) :
    latches (channelDecision p c level) = true ↔
      (evaluateChannel p c level).state ≠ c.state ∧ (evaluateChannel p c level).state ≠ .up ∧
        (evaluateChannel p c level).state ≠ .down := by
  cases hd : channelDecision p c level with
  | none => simp [latches, (evaluateChannel_undecided hd).1]
  | some decided =>
    obtain ⟨st, l⟩ := decided
    have hl := decide_latches (c := c.qualify p.upLevel level) hd
    obtain ⟨hst, -⟩ := evaluateChannel_decided hd
    rw [hst, ← hl]
    cases l <;> simp [latches, channelDecision_ne hd]

/-- Each channel of the table after an evaluation, at its level (R4). -/
theorem evaluateKeys_channel (levels : Levels) (s : State) (i : Fin 23) :
    (evaluateKeys levels s).keys.channels[i.val]? =
      (s.keys.channels[i.val]?).map fun c => evaluateChannel s.params c levels[i] := by
  rw [evaluateKeys_channels, List.getElem?_zipWith]
  have hlevel : levels.toList[i.val]? = some levels[i] := by simp
  rw [hlevel]
  cases s.keys.channels[i.val]? <;> rfl

/-- Some channel of the evaluation sets a latch (R9). -/
def anyLatch (levels : Levels) (s : State) : Bool :=
  (s.keys.channels.zip levels.toList).any fun cl => latches (channelDecision s.params cl.1 cl.2)

theorem anyLatch_iff {levels : Levels} {s : State} (h : s.keys.channels.length = 23) :
    anyLatch levels s = true ↔ ∃ i : Fin 23, ∃ c, s.keys.channels[i.val]? = some c ∧
      latches (channelDecision s.params c levels[i]) = true := by
  simp only [anyLatch, List.any_eq_true]
  constructor
  · rintro ⟨⟨c, level⟩, hmem, hl⟩
    obtain ⟨i, hi, e⟩ := List.mem_iff_getElem.1 hmem
    have hi23 : i < 23 := by simp only [List.length_zip] at hi; omega
    simp only [List.getElem_zip, Prod.mk.injEq] at e
    obtain ⟨rfl, rfl⟩ := e
    refine ⟨⟨i, hi23⟩, s.keys.channels[i], List.getElem?_eq_getElem _, ?_⟩
    simpa using hl
  · rintro ⟨i, c, hc, hl⟩
    refine ⟨(c, levels[i]), List.mem_iff_getElem?.2 ⟨i.val, ?_⟩, hl⟩
    rw [List.getElem?_zip_eq_some]
    exact ⟨hc, by simp⟩

theorem evaluateKeys_eq (levels : Levels) (s : State) :
    evaluateKeys levels s =
      let s1 := s.mapKeys fun k => { k with channels := k.channels.zipWith (evaluateChannel s.params) levels.toList }
      if anyLatch levels s then raise .keyFault s1 else s1 := rfl

/-- The link controller after an evaluation: KEY_FAULT is raised once exactly where a latch is set (R9, log 31). -/
theorem evaluateKeys_link (levels : Levels) (s : State) :
    (evaluateKeys levels s).link = if anyLatch levels s then (raise .keyFault s).link else s.link := by
  rw [evaluateKeys_eq]
  dsimp only
  split
  · exact raise_congr rfl rfl rfl rfl rfl
  · rfl

theorem evaluateKeys_frame (levels : Levels) (s : State) :
    evaluateKeys levels s =
      { s with keys := (evaluateKeys levels s).keys, link := (evaluateKeys levels s).link } := by
  rw [evaluateKeys_eq]
  dsimp only
  split
  · rw [raise_link]
    rfl
  · rfl

/-- The part with an evaluation taken and its result handed on, before a guard of 0 ms closes a stroke. -/
def State.evaluated (s : State) (levels : Levels) : State :=
  (evaluateKeys levels s).mapFormer fun f =>
    f.takeResult ((evaluateKeys levels s).keys.channels.map (·.state)) s.params.releaseGuard s.now

theorem evaluated_eq (s : State) (levels : Levels) :
    s.evaluated levels = { s with
      keys := (evaluateKeys levels s).keys, link := (evaluateKeys levels s).link
      former := s.former.takeResult ((evaluateKeys levels s).keys.channels.map (·.state)) s.params.releaseGuard
        s.now } := by
  unfold State.evaluated
  rw [evaluateKeys_frame]
  rfl

/-- The evaluation while keys are sensed: its result is handed on, and a guard of 0 ms that the result starts closes
the stroke at once (R15). -/
theorem evaluation_sensing {s : State} (levels : Levels) (h : s.boot.sensing = true) :
    evaluation levels s =
      if s.former.state = .chord ∧ (s.evaluated levels).former.state = .releasing ∧ s.params.releaseGuard = 0 then
        closeStroke (s.evaluated levels)
      else s.evaluated levels := by
  have hparams : (evaluateKeys levels s).params = s.params := by rw [evaluateKeys_frame]
  have hnow : (evaluateKeys levels s).now = s.now := by rw [evaluateKeys_frame]
  have hformer : (evaluateKeys levels s).former = s.former := by rw [evaluateKeys_frame]
  rw [evaluation, if_pos h]
  simp only [handResult, hparams, hnow, hformer]
  rfl

/-- What an evaluation takes, and what it leaves alone. -/
theorem evaluated_taken {s : State} (levels : Levels) (h : s.keys.channels.length = 23) :
    let t := s.evaluated levels
    t = { s with keys := t.keys, former := t.former, link := t.link } ∧
      (∀ i : Fin 23, t.keys.channels[i.val]? =
        (s.keys.channels[i.val]?).map fun c => evaluateChannel s.params c levels[i]) ∧
      t.former = s.former.takeResult (t.keys.channels.map (·.state)) s.params.releaseGuard s.now ∧
      ((∀ i : Fin 23, ∀ c d, s.keys.channels[i.val]? = some c → t.keys.channels[i.val]? = some d →
          d.state ≠ c.state → d.state = .up ∨ d.state = .down) → t.link = s.link) ∧
      (∀ i : Fin 23, ∀ c d, s.keys.channels[i.val]? = some c → t.keys.channels[i.val]? = some d →
          d.state ≠ c.state → d.state ≠ .up → d.state ≠ .down → t.link = (raise .keyFault s).link) := by
  intro t
  have ht : t = _ := evaluated_eq s levels
  have hchannel (i : Fin 23) : t.keys.channels[i.val]? =
      (s.keys.channels[i.val]?).map fun c => evaluateChannel s.params c levels[i] := by
    rw [ht]
    exact evaluateKeys_channel levels s i
  have hlink : t.link = if anyLatch levels s then (raise .keyFault s).link else s.link := by
    rw [ht]
    exact evaluateKeys_link levels s
  refine ⟨?_, hchannel, ?_, fun hquiet => ?_, fun i c d hc hd h1 h2 h3 => ?_⟩
  · rw [ht]
  · rw [ht]
  · rw [hlink, if_neg]
    rw [anyLatch_iff h]
    rintro ⟨i, c, hc, hl⟩
    obtain ⟨h1, h2, h3⟩ := (latches_iff _ _ _).1 hl
    rcases hquiet i c _ hc (by rw [hchannel, hc]; rfl) h1 with hup | hdown
    · exact h2 hup
    · exact h3 hdown
  · rw [hlink, if_pos]
    rw [hchannel, hc] at hd
    cases hd
    exact (anyLatch_iff h).2 ⟨i, c, hc, (latches_iff _ _ _).2 ⟨h1, h2, h3⟩⟩

/-- The blocks have nothing to do after an evaluation that closes no stroke. -/
theorem runBlocks_evaluated {s : State} (hq : s.quiet) (levels : Levels) :
    runBlocks (s.evaluated levels) = s.evaluated levels := by
  rw [evaluated_eq]
  exact runBlocks_same hq rfl rfl rfl rfl rfl rfl rfl

/-- A guard of 0 ms that an evaluation starts is out at once (R15). -/
theorem evaluated_guardOver {s : State} {levels : Levels} (hc : s.former.state = .chord)
    (hr : (s.evaluated levels).former.state = .releasing) (hg : s.params.releaseGuard = 0) :
    (s.evaluated levels).former.guardOver s.now = true := by
  have hformer : (s.evaluated levels).former =
      s.former.takeResult ((evaluateKeys levels s).keys.channels.map (·.state)) s.params.releaseGuard s.now := by
    rw [evaluated_eq]
  rw [hformer, takeResult_chord hc] at hr ⊢
  split at hr
  case isTrue h => simp [StrokeFormer.guardOver, h, hg]
  case isFalse h => exact absurd (hc.symm.trans hr) (by decide)

theorem exec_evaluation (levels : Levels) (s : State) :
    exec (.evaluation levels) s = .next (runBlocks (evaluation levels s)) := rfl

/-- Settles O13. -/
theorem evaluationTakesEveryChannel : Obligations.EvaluationTakesEveryChannel := by
  intro levels s hq taken
  refine ⟨fun h => ?_, fun h hlen => ⟨fun hguard => ?_, fun hguard => ?_⟩⟩
  · rw [exec_evaluation, evaluation, if_neg (by simp [h]), runBlocks_quiet hq]
  · refine ⟨s.evaluated levels, ?_, evaluated_taken levels hlen⟩
    rw [exec_evaluation, evaluation_sensing levels h, if_neg (by omega), runBlocks_evaluated hq]
  · refine ⟨s.evaluated levels, evaluated_taken levels hlen, ?_⟩
    rw [exec_evaluation, evaluation_sensing levels h]
    by_cases hclose : s.former.state = .chord ∧ (s.evaluated levels).former.state = .releasing
    · have hover := evaluated_guardOver hclose.1 hclose.2 hguard
      have hnow : (s.evaluated levels).now = s.now := by rw [evaluated_eq]
      rw [if_pos ⟨hclose.1, hclose.2, hguard⟩, if_pos hclose]
      exact (if_pos (by rw [hnow]; exact hover)).symm
    · rw [if_neg fun hall => hclose ⟨hall.1, hall.2.1⟩, if_neg hclose, runBlocks_evaluated hq]

/-- Settles O14. -/
theorem channelEventsAreTheirEvaluations : Obligations.ChannelEventsAreTheirEvaluations := by
  intro ch levels s c hsense hlen hc
  have hat : decisionAt ch levels s = channelDecision s.params c levels[ch] := by
    rw [decisionAt, if_pos hsense, hc]
    rfl
  refine ⟨fun st l hd => ⟨?_, ?_, ?_⟩, fun hd => ⟨?_, ?_⟩⟩
  · split
    case isTrue h => simp only [exec, execStuckLimitReached, hat, hd, if_pos h]; rfl
    case isFalse h => simp only [exec, execDebounceHeld, hat, hd, if_neg h]; rfl
  · split
    case isTrue h => simp only [exec, execDebounceHeld, hat, hd, if_pos h]
    case isFalse h => simp only [exec, execStuckLimitReached, hat, hd, if_neg h]
  · obtain ⟨hst, -, hdwell⟩ := evaluateChannel_decided hd
    refine ⟨_, evaluateChannel s.params c levels[ch], rfl, ?_, hst, hdwell⟩
    have hkeys : (runEvaluation levels s).keys = (evaluateKeys levels s).keys := by
      rw [runEvaluation, keys_out (runBlocks_outside _), evaluation, if_pos hsense, keys_out (handResult_outside _)]
    rw [hkeys, evaluateKeys_channel, hc]
    rfl
  · simp only [exec, execDebounceHeld, hat, hd]
  · simp only [exec, execStuckLimitReached, hat, hd]

end Sys2Proof.Machine
end

section
/-! PROOFS. FAULT_CLEAR (R10, R121), the ring's arrivals and freeing (R24 to R29), and the close of a stroke
(R16 to R20). -/

namespace Sys2Proof.Machine

/-! ## FAULT_CLEAR -/

/-- The latch that FAULT_CLEAR leaves, line by line (R10). -/
theorem clearedLatch_eq (c : Channel) :
    c.clearedLatch =
      if c.state = .disabled then .noFault
      else if c.state = .stuck then .stuck
      else if c.reading = .openCircuit then .openCircuit
      else if c.reading = .shortCircuit then .shortCircuit
      else .noFault := by
  unfold Channel.clearedLatch
  cases c.reading <;> rfl

/-- The cause of a channel's fault is still present (R10). -/
def causePresent (c : Channel) : Bool :=
  c.state != .disabled && (c.state == .stuck || c.reading == .openCircuit || c.reading == .shortCircuit)

theorem clearedLatch_ne (c : Channel) : (c.clearedLatch != .noFault) = causePresent c := by
  rw [clearedLatch_eq, causePresent]
  by_cases h1 : c.state = .disabled
  · rw [if_pos h1, h1]
    rfl
  by_cases h2 : c.state = .stuck
  · rw [if_neg h1, if_pos h2, h2]
    rfl
  have hon : (c.state != .disabled) = true := bne_iff_ne.2 h1
  have hfree : (c.state == .stuck) = false := beq_eq_false_iff_ne.2 h2
  rw [if_neg h1, if_neg h2, hon, hfree]
  cases c.reading <;> rfl

/-- A channel table with the latches of a set of channels cleared, or set again. -/
def clearedChannels (set : Nat) (channels : List Channel) : List Channel :=
  (channels.zipIdx.map fun ci => (ci.1, set.testBit ci.2)).map fun cn =>
    if cn.2 then { cn.1 with latch := cn.1.clearedLatch } else cn.1

theorem clearedChannels_getElem? (set : Nat) (channels : List Channel) (i : Nat) :
    (clearedChannels set channels)[i]? = (channels[i]?).map fun c =>
      if set.testBit i then { c with latch := c.clearedLatch } else c := by
  simp only [clearedChannels, List.getElem?_map, List.getElem?_zipIdx, Option.map_map, Nat.zero_add]
  cases channels[i]? <;> rfl

/-- The cause of a named channel's fault is still present. -/
def relatches (set : Nat) (channels : List Channel) : Bool :=
  (channels.zipIdx.map fun ci => (ci.1, set.testBit ci.2)).any fun cn => cn.2 && cn.1.clearedLatch != .noFault

theorem relatches_iff (set : Nat) (channels : List Channel) :
    relatches set channels = true ↔
      ∃ i c, channels[i]? = some c ∧ set.testBit i = true ∧ causePresent c = true := by
  simp only [relatches, List.any_map, List.any_eq_true, Function.comp_apply, Bool.and_eq_true, clearedLatch_ne]
  constructor
  · rintro ⟨⟨c, i⟩, hmem, hbit, hcause⟩
    exact ⟨i, c, List.mem_zipIdx_iff_getElem?.1 hmem, hbit, hcause⟩
  · rintro ⟨i, c, hc, hbit, hcause⟩
    exact ⟨(c, i), List.mem_zipIdx_iff_getElem?.2 hc, hbit, hcause⟩

/-- FAULT_CLEAR at the channels changes the channel table, and raises KEY_FAULT where a cause is present. -/
theorem clearKeyLatches_eq (set : Nat) (s : State) :
    clearKeyLatches set s = { s with
      keys := { s.keys with channels := clearedChannels set s.keys.channels }
      link := if relatches set s.keys.channels then (raise .keyFault s).link else s.link } := by
  have hsplit : clearKeyLatches set s =
      let s1 := s.mapKeys fun k => { k with channels := clearedChannels set k.channels }
      if relatches set s.keys.channels then raise .keyFault s1 else s1 := rfl
  rw [hsplit]
  dsimp only
  split
  · have hlink := raise_congr (c := .keyFault) (s := s)
      (t := s.mapKeys fun k => { k with channels := clearedChannels set k.channels }) rfl rfl rfl rfl rfl
    rw [raise_link, hlink]
    rfl
  · rfl

theorem mapPorts_port (f : Feeds) (g : PortId → Port → Port) (i : PortId) : (f.mapPorts g).port i = g i (f.port i) := by
  cases i <;> rfl

/-- A channel above 22 or a port above 4 refuses the whole (R10, R121). -/
theorem askFaultClear_eq (r : Request) {payload : List Byte} (h : payload.length = 4) (s : State) :
    askFaultClear r payload s =
      if 8388608 ≤ beValue (payload.take 3) ∨ 32 ≤ beValue (payload.drop 3) then answer r .badValue [] s
      else answer r .ok [] (clearLineLatches (beValue (payload.drop 3)) (clearKeyLatches (beValue (payload.take 3)) s)) := by
  have hports : fieldAt payload 3 1 = beValue (payload.drop 3) := by
    rw [fieldAt, List.take_of_length_le (by simp [h])]
  simp only [askFaultClear, hports]
  rfl

/-- Settles O19. -/
theorem faultClearTestsEachCause : Obligations.FaultClearTestsEachCause := by
  intro tag payload s hs hlen channels ports present taken
  have hexec := exec_serves (c := .faultClear tag payload) (payload := payload) hs rfl (by simp [hlen])
  rw [hexec, askFaultClear_eq _ hlen]
  refine ⟨fun h => ?_, fun hc hp => ?_⟩
  · rw [if_pos h, answer_taken_answering]
    rfl
  rw [if_neg (by omega), answer_eq, clearKeyLatches_eq]
  have hre := relatches_iff channels s.keys.channels
  refine ⟨_, rfl, rfl, fun i => ?_, fun i c hi hbit hpresent => ?_, fun hnone => ?_, rfl, rfl, rfl, fun p => ?_⟩
  · refine (clearedChannels_getElem? channels s.keys.channels i).trans ?_
    simp only [clearedLatch_eq]
  · have hrelatch : relatches channels (s.mapLink Link.withTaken).keys.channels = true :=
      hre.2 ⟨i, c, hi, hbit, hpresent⟩
    rw [if_pos hrelatch]
    rfl
  · have hrelatch : ¬ relatches channels (s.mapLink Link.withTaken).keys.channels = true := by
      rintro h
      obtain ⟨i, c, hi, hbit, hcause⟩ := hre.1 h
      exact absurd hcause (by rw [show causePresent c = false from hnone i c hi hbit]; decide)
    rw [if_neg hrelatch]
    rfl
  · exact mapPorts_port ..

/-! ## The ring (R24 to R29) -/

/-- Of a list whose numbers rise, the entries that a test below a bound drops from the front are all it drops. -/
theorem dropWhile_eq_filter {α : Type} {key : α → Nat} {bound : Nat} {l : List α}
    (h : l.Pairwise fun a b => key a < key b) :
    l.dropWhile (fun e => decide (key e < bound)) = l.filter fun e => decide (bound ≤ key e) := by
  induction l with
  | nil => rfl
  | cons a l ih =>
    obtain ⟨hhead, htail⟩ := List.pairwise_cons.1 h
    by_cases ha : key a < bound
    · rw [List.dropWhile_cons_of_pos (by simpa using ha), List.filter_cons_of_neg (by simpa using ha), ih htail]
    · rw [List.dropWhile_cons_of_neg (by simpa using ha), List.filter_eq_self.2]
      intro b hb
      rcases List.mem_cons.1 hb with rfl | hb
      · simpa using ha
      · have := hhead b hb
        simp; omega

/-- Freeing keeps exactly the entries that one consumer has not passed (R29). -/
theorem Ring.free_entries {r : Ring} (h : r.entries.Pairwise fun a b => a.seq < b.seq) :
    (r.entries.dropWhile fun e => e.seq < r.translationCursor && e.seq < r.journalCursor) =
      r.entries.filter fun e => r.translationCursor ≤ e.seq || r.journalCursor ≤ e.seq := by
  have hdrop := dropWhile_eq_filter (key := RingRecord.seq) (bound := min r.translationCursor r.journalCursor) h
  have htest (e : RingRecord) : (decide (e.seq < r.translationCursor) && decide (e.seq < r.journalCursor)) =
      decide (e.seq < min r.translationCursor r.journalCursor) := by
    rw [Bool.eq_iff_iff, Bool.and_eq_true, decide_eq_true_eq, decide_eq_true_eq, decide_eq_true_eq]
    omega
  have hkeep (e : RingRecord) : (decide (r.translationCursor ≤ e.seq) || decide (r.journalCursor ≤ e.seq)) =
      decide (min r.translationCursor r.journalCursor ≤ e.seq) := by
    rw [Bool.eq_iff_iff, Bool.or_eq_true, decide_eq_true_eq, decide_eq_true_eq, decide_eq_true_eq]
    omega
  simp only [htest, hkeep]
  exact hdrop

theorem Ring.arrive_entered {r : Ring} (b : RecordBody) (hl : r.entries.length < 64) (hh : r.holding = none)
    (hn : r.nextSeq < 0xFFFFFFFF) :
    r.arrive b = ({ r with entries := r.entries ++ [⟨r.nextSeq, r.gap, b⟩], nextSeq := r.nextSeq + 1, gap := 0 },
      .entered r.nextSeq) := by
  unfold Ring.arrive
  rw [if_neg (by simp only [hh, max32, not_or]; exact ⟨by decide, by omega⟩)]
  exact if_pos hl

theorem Ring.arrive_held {r : Ring} (b : RecordBody) (hl : 64 ≤ r.entries.length) (hh : r.holding = none)
    (hn : r.nextSeq < 0xFFFFFFFF) :
    r.arrive b = ({ r with holding := some ⟨r.gap, b⟩, gap := 0 }, .held r.nextSeq) := by
  unfold Ring.arrive
  rw [if_neg (by simp only [hh, max32, not_or]; exact ⟨by decide, by omega⟩)]
  exact if_neg (Nat.not_lt.2 hl)

theorem Ring.arrive_lost {r : Ring} (b : RecordBody) (h : r.holding ≠ none ∨ 0xFFFFFFFF ≤ r.nextSeq) :
    r.arrive b = ({ r with gap := min (r.gap + 1) 255, lost := min (r.lost + 1) 0xFFFFFFFF }, .lost) := by
  unfold Ring.arrive
  exact if_pos (h.imp_left Option.isSome_iff_ne_none.2)

/-- Settles O21. -/
theorem ringArrivalsAndFreeing : Obligations.RingArrivalsAndFreeing := by
  refine ⟨fun r b => ⟨Ring.arrive_entered b, Ring.arrive_held b, Ring.arrive_lost b⟩, ?_⟩
  intro r hrise kept
  have hfree : r.free = Ring.moveIn { r with entries := kept } := by
    rw [Ring.free, Ring.free_entries hrise]
  refine ⟨fun hh => ?_, fun h hh hroom => ?_, fun h hh hroom => ?_⟩
  · rw [hfree]; simp only [Ring.moveIn, hh]
  · rw [hfree]; simp only [Ring.moveIn, hh]; exact if_pos hroom
  · rw [hfree]; simp only [Ring.moveIn, hh]; exact if_neg (Nat.not_lt.2 hroom)

/-! ## The close of a stroke (R16 to R20) -/

/-- A record that arrives and is not lost changes the ring alone (R24, R25). -/
theorem arrive_kept {s : State} (b : RecordBody) (hh : s.ring.holding = none) (hn : s.ring.nextSeq < 0xFFFFFFFF) :
    arrive b s = { s with ring := (s.ring.arrive b).1 } := by
  unfold arrive
  dsimp only
  split
  case h_1 hlost =>
    by_cases hl : s.ring.entries.length < 64
    · rw [Ring.arrive_entered b hl hh hn] at hlost; cases hlost
    · rw [Ring.arrive_held b (Nat.le_of_not_lt hl) hh hn] at hlost; cases hlost
  case h_2 => rfl
  case h_3 => rfl

/-- The engine takes the record at its cursor before the blocks do anything else (R60, log 6). -/
theorem runBlocks_takes {s t : State} {rec : RingRecord} (hq : s.quiet) (he : t.engine = s.engine)
    (hl : t.dict.lookup = s.dict.lookup) (hw : s.engine.state = .waiting) (hroom : s.engine.window.length < 24)
    (hrec : t.ring.recordAt t.ring.translationCursor = some rec) :
    runBlocks t = cascade (cascadeBound - 1) (takeRecord rec t) := by
  have hevaluation : evaluationStep t = none := by
    obtain ⟨⟨h, -⟩, -, -⟩ := (quiet_iff s).1 hq
    rw [evaluationStep_none] at h ⊢
    rwa [he, hl]
  have htake : takeStep t = some (takeRecord rec t) := by
    unfold takeStep
    rw [he, if_pos ⟨hw, hroom⟩, hrec]
    rfl
  have hstep : internalStep t = some (takeRecord rec t) := by simp [internalStep, hevaluation, htake]
  have hbound : cascadeBound = (cascadeBound - 1) + 1 := rfl
  rw [runBlocks, hbound, cascade_step _ hstep]
  rfl

/-- The record that arrives at an empty ring stands at the engine's cursor. -/
theorem recordAt_arrived {r : Ring} (b : RecordBody) (he : r.entries = []) (hh : r.holding = none)
    (hn : r.nextSeq < 0xFFFFFFFF) (hc : r.translationCursor = r.nextSeq) :
    (r.arrive b).1.recordAt (r.arrive b).1.translationCursor = some ⟨r.nextSeq, r.gap, b⟩ := by
  rw [Ring.arrive_entered b (by simp [he]) hh hn]
  simp [Ring.recordAt, he, hc]

/-- A stroke counts toward the OPEN chunks, and those it takes to the depth close (R61, R73). -/
theorem closeReached_countStroke (depth : Nat) (chunks : List Chunk) :
    closeReached depth (countStroke chunks) = chunks.map fun c =>
      if c.isOpen then { c with afterCount := c.afterCount + 1, isOpen := decide (c.afterCount + 1 < depth) } else c := by
  simp only [closeReached, countStroke, List.map_map]
  refine List.map_congr_left fun c _ => ?_
  simp only [Function.comp_apply]
  by_cases ho : c.isOpen = true
  · by_cases hd : depth ≤ c.afterCount + 1
    · simp [ho, hd, Chunk.close, Nat.not_lt.2 hd]
    · simp [ho, hd, Nat.lt_of_not_le hd]
  · simp [ho]

/-- In CLOSING a closed stroke is counted as discarded (R20). -/
theorem dispose_closing {s : State} (b : RecordBody) (h : s.job.state = .closing) :
    dispose b s = s.mapJob fun j => { j with discarded := satIncr max32 j.discarded } := by
  simp only [dispose, h]

theorem excluded_eq (x : ChannelState) : x.excluded = (x != .up && x != .down) := by
  cases x <;> rfl

theorem closedStroke_eq (f : StrokeFormer) :
    f.closedStroke =
      { kind := .stroke, value := f.chord, correction := f.chord == 0x400#23
        degraded := f.result.any (fun x => x != .up && x != .down)
        downTime := f.downTime, closeTime := f.jobClock
        audio := if f.audioSeen then some (f.audioDown, f.audioCount) else none } := by
  unfold StrokeFormer.closedStroke
  rw [show (ChannelState.excluded : ChannelState → Bool) = _ from funext excluded_eq]

theorem guardOver_iff (f : StrokeFormer) (now : Nat) :
    f.guardOver now = true ↔ f.state = .releasing ∧ ∃ due, f.guardDue = some due ∧ due ≤ now := by
  simp [StrokeFormer.guardOver, Option.any_eq_true]

/-- Settles O15. -/
theorem releaseGuardClosesTheStroke : Obligations.ReleaseGuardClosesTheStroke := by
  refine ⟨fun s h => if_neg ?_, ?_⟩
  · rw [guardOver_iff]
    rintro ⟨hrel, due, hdue, hle⟩
    rcases h with h | h
    · exact h hrel
    · exact absurd (h due hdue) (Nat.not_lt.2 hle)
  intro s hrel hdue hq rest body
  have hexec : exec .releaseGuardExpiry s = .next (runBlocks (dispose body (s.mapFormer StrokeFormer.rest))) := by
    refine (if_pos ((guardOver_iff _ _).2 ⟨hrel, hdue⟩)).trans ?_
    rw [closeStroke, closedStroke_eq]
  have disposed {t : State} (h : dispose body (s.mapFormer StrokeFormer.rest) = t) (hquiet : runBlocks t = t) :
      exec .releaseGuardExpiry s = .next t := by rw [hexec, h, hquiet]
  have opened (hj : s.job.state = .opened) (hh : s.ring.holding = none) (hn : s.ring.nextSeq < 0xFFFFFFFF) :
      dispose body (s.mapFormer StrokeFormer.rest) = { s with former := rest, ring := (s.ring.arrive body).1 } := by
    simp only [dispose, State.mapFormer_job, hj]
    exact arrive_kept (s := s.mapFormer StrokeFormer.rest) body hh hn
  refine ⟨fun hj hbusy hh hn => ?busy, fun hj hw hroom he hh hn hc => ?taken, fun hj => ?dropped, fun hj => ?counted,
    fun hj hcopy hroom => ?notice⟩
  case busy =>
    refine (disposed (opened hj hh hn) (runBlocks_quiet (quiet_busy hq hbusy.1 hbusy.2 rfl rfl rfl rfl rfl rfl))).trans ?_
    split
    case isTrue h => rw [Ring.arrive_entered body h hh hn]
    case isFalse h => rw [Ring.arrive_held body (Nat.le_of_not_lt h) hh hn]
  case taken =>
    intro ring window chunks
    have htakes := runBlocks_takes (t := { s with former := rest, ring := (s.ring.arrive body).1 }) hq rfl rfl hw hroom
      (recordAt_arrived body he hh hn hc)
    rw [hexec, opened hj hh hn, htakes]
    refine ⟨fun hstroke => ?_, fun hcorrection => ?_⟩
    · have hcorr : body.correction = false := by simpa [body] using hstroke
      have htake : takeRecord ⟨s.ring.nextSeq, s.ring.gap, body⟩
          { s with former := rest, ring := (s.ring.arrive body).1 } =
          takeStroke ⟨s.ring.nextSeq, s.ring.gap, body⟩
            { s with former := rest, ring := ring, engine := { s.engine with timerDue := none } } :=
        if_neg (by simp [hcorr])
      rw [htake]
      simp only [takeStroke, beginEvaluation, Engine.beginEvaluation, State.mapEngine, closeReached_countStroke,
        Bool.or_false]
      rfl
    · have hcorr : body.correction = true := by simp [body, hcorrection]
      have htake : takeRecord ⟨s.ring.nextSeq, s.ring.gap, body⟩
          { s with former := rest, ring := (s.ring.arrive body).1 } =
          takeCorrection ⟨s.ring.nextSeq, s.ring.gap, body⟩
            { s with former := rest, ring := ring, engine := { s.engine with timerDue := none } } :=
        if_pos (by simp [hcorr])
      rw [htake]
  case dropped =>
    refine disposed ?_ (runBlocks_same hq rfl rfl rfl rfl rfl rfl rfl)
    rcases hj with hj | ⟨hj, hcopy⟩
    · simp only [dispose, State.mapFormer_job, hj]; rfl
    · simp only [dispose, State.mapFormer_job, hj]
      exact if_neg (by simp [hcopy])
  case counted =>
    refine disposed ?_ (runBlocks_same hq rfl rfl rfl rfl rfl rfl rfl)
    exact dispose_closing (s := s.mapFormer StrokeFormer.rest) body hj
  case notice =>
    have hnotice : dispose body (s.mapFormer StrokeFormer.rest) =
        enqueue false noticeStroke 0 (strokeNotice body) (s.mapFormer StrokeFormer.rest) := by
      simp only [dispose, State.mapFormer_job, hj, State.mapFormer_params, hcopy, if_true]
      exact if_pos (decide_eq_true hroom)
    exact ⟨_, disposed hnotice (runBlocks_same (s := s) hq rfl rfl rfl rfl rfl rfl rfl), rfl, rfl, rfl⟩

end Sys2Proof.Machine
end

section
/-! PROOFS. Ports on hold, and the host's strokes: STRIKE, MARK and corrections (R23, R30, R31, R88 to R92). -/

namespace Sys2Proof.Machine

/-! ## Profiles on hold (R127) -/

/-- All three profiles are on hold, so that no port may choose. -/
def Feeds.onHold (f : Feeds) : Prop :=
  f.profileA.hold = true ∧ f.profileB.hold = true ∧ f.profileC.hold = true

theorem Feeds.onHold_profile {f : Feeds} (h : f.onHold) (i : ProfileId) : (f.profile i).hold = true := by
  obtain ⟨ha, hb, hc⟩ := h
  cases i
  · exact ha
  · exact hb
  · exact hc

theorem mayChoose_hold {s : State} {i : PortId} (h : (s.feeds.profileOf i).hold = true) : mayChoose s i = false := by
  simp [mayChoose, h]

theorem mayChoose_onHold {s : State} (h : s.feeds.onHold) (i : PortId) : mayChoose s i = false :=
  mayChoose_hold (s.feeds.onHold_profile h _)

theorem choosePortZero_held {s : State} (h : (s.feeds.profileOf .p0).hold = true) : choosePortZero s = s :=
  choosePortZero_stop (by simp [portZeroSends, mayChoose_hold h])

/-- A port whose profile is on hold makes no choice. -/
theorem chooseOne_held {s : State} {i : PortId} (h : (s.feeds.profileOf i).hold = true) : chooseOne i s = s := by
  cases i
  case p0 => exact choosePortZero_held h
  all_goals exact choose_none (.inl (mayChoose_hold h))

theorem choose_onHold {s : State} (h : s.feeds.onHold) (i : PortId) : choose i s = s :=
  choose_none (.inl (mayChoose_onHold h i))

/-- With all profiles on hold an event that reaches every port makes no port choose. -/
theorem chooseAll_onHold {s : State} (h : s.feeds.onHold) : chooseAll s = s := by
  rw [chooseAll, choosePortZero_held (s.feeds.onHold_profile h _), choose_onHold h, choose_onHold h, choose_onHold h,
    choose_onHold h]

theorem onHold_mapPorts {f : Feeds} (g : PortId → Port → Port) (h : f.onHold) : (f.mapPorts g).onHold := h

/-- A RETRACT with all profiles on hold: the stream's end and the valid ends (R106, R124). -/
theorem applyRetract_onHold {s : State} (h : s.feeds.onHold) (pos : Nat) :
    applyRetract pos s = { s with
      stream := { s.stream with length := pos }
      feeds := s.feeds.mapPorts fun _ p => { p with valid := min p.valid pos } } :=
  chooseAll_onHold (s := { s with
    stream := { s.stream with length := pos }
    feeds := s.feeds.mapPorts fun _ p => { p with valid := min p.valid pos } }) h

/-! ## STRIKE and MARK (R30, R31) -/

/-- The host's record, field by field (R23). -/
theorem hostRecord_eq (kind : RecordKind) (value : Code) (f : StrokeFormer) :
    hostRecord kind value f =
      { kind := kind, value := value, correction := kind == .strike, degraded := false
        downTime := f.jobClock, closeTime := f.jobClock
        audio := if f.audioSeen then some (f.audioCount, f.audioCount) else none } := rfl

/-- The outcome and number of a record that is not lost (R30). -/
theorem arrive_fields_kept {r : Ring} (b : RecordBody) (hh : r.holding = none) (hn : r.nextSeq < 0xFFFFFFFF) :
    (r.arrive b).2.fields = (if r.entries.length < 64 then 0 else 1 : Byte) :: be32 r.nextSeq := by
  by_cases hl : r.entries.length < 64
  · rw [Ring.arrive_entered b hl hh hn, if_pos hl]; rfl
  · rw [Ring.arrive_held b (Nat.le_of_not_lt hl) hh hn, if_neg hl]; rfl

theorem arrive_fields_lost {r : Ring} (b : RecordBody) (h : r.holding ≠ none ∨ 0xFFFFFFFF ≤ r.nextSeq) :
    (r.arrive b).2.fields = [0x02, 0, 0, 0, 0] := by
  rw [Ring.arrive_lost b h]; rfl

/-- A record that is lost raises STROKE_LOST (R26). -/
theorem arrive_raises {s : State} (b : RecordBody) (h : s.ring.holding ≠ none ∨ 0xFFFFFFFF ≤ s.ring.nextSeq) :
    arrive b s = { s with ring := (s.ring.arrive b).1, link := (raise .strokeLost s).link } := by
  have hlost : (s.ring.arrive b).2 = .lost := by rw [Ring.arrive_lost b h]
  have hlink := raise_congr (c := .strokeLost) (s := s) (t := s.mapRing fun r => (r.arrive b).1) rfl rfl rfl rfl rfl
  simp only [arrive, hlost]
  rw [raise_link, hlink]
  rfl

/-- A host record that is entered or held, answered (R30). -/
theorem answer_arrive_kept {s : State} (kind tag : Byte) (b : RecordBody) (hh : s.ring.holding = none)
    (hn : s.ring.nextSeq < 0xFFFFFFFF) :
    answer ⟨kind, tag⟩ .ok (s.ring.arrive b).2.fields (arrive b (s.mapLink Link.withTaken)) =
      { s with
        ring := (s.ring.arrive b).1
        link := s.answered kind tag
          ([0x00, if s.ring.entries.length < 64 then 0 else 1] ++ be32 s.ring.nextSeq) } := by
  rw [arrive_kept (s := s.mapLink Link.withTaken) b hh hn, arrive_fields_kept b hh hn, answer_eq]
  rfl

theorem answer_arrive_lost {s : State} (kind tag : Byte) (b : RecordBody)
    (h : s.ring.holding ≠ none ∨ 0xFFFFFFFF ≤ s.ring.nextSeq) :
    answer ⟨kind, tag⟩ .ok (s.ring.arrive b).2.fields (arrive b (s.mapLink Link.withTaken)) =
      { s with
        ring := (s.ring.arrive b).1
        link := (raise .strokeLost { s with link := s.link.withTaken }).link.withReply s.now kind tag
          [0x00, 0x02, 0, 0, 0, 0] } := by
  rw [arrive_raises (s := s.mapLink Link.withTaken) b h, arrive_fields_lost b h, answer_eq]
  rfl

/-- With both consumers busy, a change of the ring and the link controller gives the blocks nothing to do. -/
theorem runBlocks_busy {s t : State} (hq : s.quiet) (hbusy : s.consumersBusy) (he : t.engine = s.engine)
    (hj : t.journal = s.journal) (hl : t.dict.lookup = s.dict.lookup)
    (ha : t.job.abortPending = s.job.abortPending) (hp : t.port = s.port) : runBlocks t = t :=
  runBlocks_quiet (quiet_busy hq (he ▸ hbusy.1) (hj ▸ hbusy.2) (by rw [he]) hl ha (by rw [hj]) (by rw [hj]) hp)

/-! ## Corrections (R88 to R92) -/

/-- The journal with a stroke's number handed on as an amendment (R106). -/
def Journal.amended (j : Journal) (seq : Nat) : Journal :=
  if j.mode ≠ .running then j
  else if j.amendments.length < 32 then { j with amendments := j.amendments ++ [seq] }
  else { j with amendmentsDropped := min (j.amendmentsDropped + 1) 0xFFFFFFFF }

theorem queueAmendment_eq (seq : Nat) (s : State) :
    queueAmendment seq s = { s with journal := s.journal.amended seq } := by
  unfold queueAmendment Journal.amended
  by_cases hm : s.journal.mode = .running
  · rw [if_neg (Classical.not_not.2 hm)]
    simp only [State.mapJournal, if_pos hm]
    rfl
  · rw [if_pos hm]
    simp only [State.mapJournal, if_neg hm]

/-- An evaluation, not forced, begins over the engine's window (R63). -/
theorem beginEvaluation_unforced (s : State) :
    beginEvaluation false s = { s with engine := { s.engine with
      state := .evaluating, timerDue := none
      run := some { forced := false, work := s.engine.window, resolved := [], cut := false, parsing := false
                    answers := [] } } } := by
  simp only [beginEvaluation, Engine.beginEvaluation, State.mapEngine, Bool.or_false]
  rfl

/-- A correction of the window's last stroke (R89). -/
theorem takeCorrection_window {s : State} (rec : RingRecord) {kept : List StrokeEntry} {w : StrokeEntry}
    (h : s.engine.window = kept ++ [w]) :
    takeCorrection rec s = beginEvaluation false { s with
      engine := { s.engine with window := kept }, journal := s.journal.amended w.seq } := by
  have hlast : s.engine.window.getLast? = some w := by rw [h]; exact List.getLast?_concat
  have hkept : s.engine.window.dropLast = kept := by rw [h]; exact List.dropLast_concat
  simp only [takeCorrection, hlast, correctWindow, queueAmendment_eq, State.mapEngine, hkept]

/-- The last chunk reopened (R90): it leaves the list, its text is retracted, its carry-in and its start become the
engine's, and its strokes but the last fill the window. -/
theorem reopenChunk_eq (c : Chunk) (s : State) :
    reopenChunk c s =
      let u : State := { s with engine := { s.engine with chunks := s.engine.chunks.dropLast } }
      let v := if c.text.isEmpty then u else applyRetract c.start u
      beginEvaluation false { v with
        engine := { v.engine with carry := c.carryIn, resolvedEnd := c.start, window := c.strokes.dropLast }
        journal := v.journal.amended c.lastSeq } := by
  unfold reopenChunk
  dsimp only
  rw [queueAmendment_eq]
  rfl

/-- A correction that reopens the last chunk (R90). -/
theorem takeCorrection_chunk {s : State} (rec : RingRecord) {before : List Chunk} {c : Chunk}
    (hw : s.engine.window = []) (h : s.engine.chunks = before ++ [c]) (ho : c.isOpen = true) (hk : c.kind ≠ .mark) :
    takeCorrection rec s = reopenChunk c s := by
  have hlast : s.engine.chunks.getLast? = some c := by rw [h]; exact List.getLast?_concat
  simp [takeCorrection, hw, hlast, Option.filter, ho, hk]

/-- A correction without a target is refused (R92). -/
theorem takeCorrection_refused {s : State} (rec : RingRecord) (hw : s.engine.window = [])
    (h : ∀ c, s.engine.chunks.getLast? = some c → c.isOpen = false ∨ c.kind = .mark) :
    takeCorrection rec s =
      offerNotice noticeRefusal
        (be32 rec.seq ++ [if rec.body.kind = .strike then 0x02 else 0x01, refusalReason s.engine.chunks.getLast?])
        s := by
  have hfilter : s.engine.chunks.getLast?.filter (fun c => c.isOpen && c.kind != .mark) = none := by
    rw [Option.filter_eq_none_iff]
    intro c hc hand
    rcases h c hc with ho | hk
    · simp [ho] at hand
    · simp [hk] at hand
  simp only [takeCorrection, hw, List.getLast?_nil, hfilter]

theorem lastSeq_stroke {c : Chunk} {kept : List StrokeEntry} {w : StrokeEntry} (hs : c.strokes = kept ++ [w])
    (hm : c.markSource = none) : c.lastSeq = w.seq := by
  have hlast : c.strokes.getLast? = some w := by rw [hs]; exact List.getLast?_concat
  simp only [Chunk.lastSeq, hm, hlast]
  rfl

theorem offerNotice_queued {s : State} (kind : Byte) (payload : List Byte) (h : s.link.notices.length < 40) :
    offerNotice kind payload s = enqueue false kind 0 payload s := if_pos (decide_eq_true h)

theorem offerNotice_dropped {s : State} (kind : Byte) (payload : List Byte) (h : 40 ≤ s.link.notices.length) :
    offerNotice kind payload s = { s with link := { s.link with
      noticesDropped := min (s.link.noticesDropped + 1) 0xFFFFFFFF } } :=
  if_neg (mt of_decide_eq_true (Nat.not_lt.2 h))

/-- Settles O22. -/
theorem strikeAndMarkArrive : Obligations.StrikeAndMarkArrive := by
  refine ⟨?requests, ?corrections⟩
  case requests =>
    intro tag number s hs body strike mark outcome lost
    have hstrike := exec_serves (c := .strike tag []) hs rfl rfl
    have hmark := exec_serves (c := .mark tag [number]) hs rfl rfl
    have state (kind : Byte) : answer ⟨kind, tag⟩ .state [] (s.mapLink Link.withTaken) = s.answering kind tag [0x02] :=
      answer_taken_answering ..
    have askedStrike (hj : s.job.state = .opened) : exec (.strike tag []) s =
        .next (runBlocks (answer ⟨kindStrike, tag⟩ .ok (s.ring.arrive strike).2.fields
          (arrive strike (s.mapLink Link.withTaken)))) :=
      hstrike.trans (congrArg Host.Outcome.next (if_pos hj))
    have askedMark (hj : s.job.state = .opened) (hn : number.toNat ≤ 15) : exec (.mark tag [number]) s =
        .next (runBlocks (answer ⟨kindMark, tag⟩ .ok (s.ring.arrive mark).2.fields
          (arrive mark (s.mapLink Link.withTaken)))) :=
      hmark.trans (congrArg Host.Outcome.next
        ((if_neg (Classical.not_not.2 hj)).trans (if_neg (Nat.not_lt.2 hn))))
    refine ⟨fun hj => ⟨?_, ?_⟩, fun hj hn => ?_, fun hj hn hq hbusy => ⟨fun hh hseq => ⟨?_, ?_⟩, fun h => ⟨?_, ?_⟩⟩,
      fun hj hq hw hroom he hh hseq hc => ?_⟩
    · rw [hstrike, ← state]
      exact congrArg Host.Outcome.next (if_neg hj)
    · rw [hmark, ← state]
      exact congrArg Host.Outcome.next (if_pos hj)
    · rw [hmark]
      exact congrArg Host.Outcome.next (((if_neg (Classical.not_not.2 hj)).trans (if_pos hn)).trans (answer_taken_answering ..))
    · exact (askedStrike hj).trans (congrArg Host.Outcome.next
        ((congrArg runBlocks (answer_arrive_kept _ _ _ hh hseq)).trans (runBlocks_busy hq hbusy rfl rfl rfl rfl rfl)))
    · exact (askedMark hj hn).trans (congrArg Host.Outcome.next
        ((congrArg runBlocks (answer_arrive_kept _ _ _ hh hseq)).trans (runBlocks_busy hq hbusy rfl rfl rfl rfl rfl)))
    · exact (askedStrike hj).trans (congrArg Host.Outcome.next
        ((congrArg runBlocks (answer_arrive_lost _ _ _ h)).trans (runBlocks_busy hq hbusy rfl rfl rfl rfl rfl)))
    · exact (askedMark hj hn).trans (congrArg Host.Outcome.next
        ((congrArg runBlocks (answer_arrive_lost _ _ _ h)).trans (runBlocks_busy hq hbusy rfl rfl rfl rfl rfl)))
    · have hrec := recordAt_arrived strike he hh hseq hc
      have hout : (if s.ring.entries.length < 64 then 0 else 1 : Byte) = 0 := by simp [he]
      rw [askedStrike hj, answer_arrive_kept _ _ _ hh hseq, hout]
      exact congrArg Host.Outcome.next (runBlocks_takes (t := { s with
        ring := (s.ring.arrive strike).1
        link := s.answered kindStrike tag ([0x00, 0] ++ be32 s.ring.nextSeq) }) hq rfl rfl hw hroom hrec)
  case corrections =>
    intro rec s amended begun
    refine ⟨fun kept w h => ?_, fun hw => ⟨fun before c kept w h ho hk hstrokes hm => ?_, fun hlast => ?_⟩⟩
    · rw [takeCorrection_window rec h, beginEvaluation_unforced]
      rfl
    · intro engine
      have hdrop : s.engine.chunks.dropLast = before := by rw [h]; exact List.dropLast_concat
      have hkept : c.strokes.dropLast = kept := by rw [hstrokes]; exact List.dropLast_concat
      rw [takeCorrection_chunk rec hw h ho hk, reopenChunk_eq, hdrop, hkept, lastSeq_stroke hstrokes hm]
      dsimp only
      refine ⟨fun htext => ?_, fun htext ha hb hc => ?_⟩
      · rw [htext, if_pos List.isEmpty_nil, beginEvaluation_unforced]
        rfl
      · have honHold : s.feeds.onHold := ⟨ha, hb, hc⟩
        have hretract := applyRetract_onHold (s := { s with engine := { s.engine with chunks := before } }) honHold
          c.start
        rw [if_neg (by simpa using htext), hretract, beginEvaluation_unforced]
        rfl
    · intro reason kind t
      have ht : t = offerNotice 0x43 (be32 rec.seq ++ [kind, reason]) s := by
        have hreason : refusalReason s.engine.chunks.getLast? = reason := rfl
        exact (takeCorrection_refused rec hw hlast).trans (by rw [hreason]; rfl)
      refine ⟨fun hroom => ?_, fun hroom => ?_⟩
      · rw [ht, offerNotice_queued _ _ hroom]
        exact ⟨rfl, rfl⟩
      · rw [ht, offerNotice_dropped _ _ hroom]

end Sys2Proof.Machine
end

section
/-! PROOFS. The memory port: start-up and its wait (R168, R189), the phases of an operation (R161), and the image
requests (R165 to R167). -/

namespace Sys2Proof.Machine

/-! ## START_UP (R189, R159) -/

/-- Work that is cut off leaves every byte outside its range alone (R159). -/
theorem cutOff_program_outside {d : Device} (a : Nat) (bytes : List Byte) {b : Nat} (hd : Mem.wf d.mem = true)
    (hb : b < a ∨ a + bytes.length ≤ b) : Mem.read1 (d.cutOff (.program a bytes)).mem b = Mem.read1 d.mem b :=
  Mem.read1_cutProgram bytes a _ b hd hb

theorem cutOff_erase_outside {d : Device} (n : Nat) {b : Nat} (hd : Mem.wf d.mem = true)
    (hb : b < n * 4096 ∨ n * 4096 + 4096 ≤ b) : Mem.read1 (d.cutOff (.erase n)).mem b = Mem.read1 d.mem b := by
  simp only [Device.cutOff, Device.scramble]
  exact Mem.read1_fillFree Config.sectorBytes (n * Config.sectorBytes) d.freeIndex b hd hb

/-- A reset cuts off the operation that had been issued, and leaves the device alone otherwise (R159). -/
theorem deviceAtReset_eq {s : State} {f : InFlight} (h : s.port.inFlight = some f) :
    deviceAtReset s = if f.phase = .readyWait then s.device else s.device.cutOff f.op := by
  simp only [deviceAtReset, h]
  by_cases hphase : f.phase = .readyWait
  · rw [if_pos hphase, if_neg (by simp [InFlight.issued, hphase])]
  · rw [if_neg hphase, if_pos (by simpa [InFlight.issued] using hphase)]

/-- What a range of the memory excludes reads as before a reset, when the operation cut off keeps to the range. -/
theorem deviceAtReset_outside {s : State} {f : InFlight} {addr n : Nat} (h : s.port.inFlight = some f)
    (hcut : ∀ b, b < addr ∨ addr + n ≤ b → Mem.read1 (s.device.cutOff f.op).mem b = Mem.read1 s.device.mem b) :
    ∀ b, b < addr ∨ addr + n ≤ b → Mem.read1 (deviceAtReset s).mem b = Mem.read1 s.device.mem b := by
  intro b hb
  rw [deviceAtReset_eq h]
  split
  · rfl
  · exact hcut b hb

/-- Settles O37. -/
theorem startUpResetsEveryBlock : Obligations.StartUpResetsEveryBlock := by
  intro s hmem
  refine ⟨State.startUp (deviceAtReset s) s.presence s.now s.pending, rfl, rfl, fun hkept => ?_, ?_, ?_⟩
  · change deviceAtReset s = s.device
    cases hf : s.port.inFlight with
    | none => simp only [deviceAtReset, hf]
    | some f =>
      rw [deviceAtReset_eq hf]
      rcases hkept f hf with hphase | ⟨a, n, hop⟩
      · exact if_pos hphase
      · rw [hop]
        exact ite_self _
  · intro f a bytes hf hop
    exact deviceAtReset_outside hf fun b hb => hop ▸ cutOff_program_outside a bytes hmem hb
  · intro f n hf hop
    exact deviceAtReset_outside hf fun b hb => hop ▸ cutOff_erase_outside n hmem hb

/-! ## The phases of an operation (R161) -/

theorem enterPhase_eq {s : State} {f : InFlight} (h : s.port.inFlight = some f) (ph : Phase) (deadline : Nat) :
    enterPhase ph deadline s =
      { s with port := { s.port with inFlight := some { f with phase := ph, deadline := deadline } } } := by
  simp only [enterPhase, State.mapPort, h, Option.map_some]

/-- TRANSFER_END of a PROGRAM or an ERASE (R161). -/
theorem execTransferEnd_selfTimed {s : State} {f : InFlight} (h : s.port.inFlight = some f)
    (hphase : f.phase = .transfer) (htimed : f.op.selfTimed = true) :
    execTransferEnd s = .next { s with port := { s.port with
      inFlight := some { f with phase := .busyWait, deadline := s.now + f.op.busyTimeout } } } := by
  simp only [execTransferEnd, h]
  rw [if_pos ⟨hphase, htimed⟩, enterPhase_eq h]

/-- Settles O39. -/
theorem operationsRunThroughTheirPhases : Obligations.OperationsRunThroughTheirPhases := by
  intro s
  have hready : exec .readyAnswered s = execReadyAnswered s := rfl
  have htransfer : exec .transferEnd s = execTransferEnd s := rfl
  rw [hready, htransfer]
  refine ⟨fun hnone => ?_, fun f hf => ⟨fun hno => ?_, fun hphase hdue hbounds => ?_, fun hno => ?_, ?_, ?_⟩⟩
  · simp only [execReadyAnswered, execTransferEnd, hnone, and_self]
  · simp only [execReadyAnswered, hf]
    refine if_neg fun ⟨hphase, hdue, _⟩ => ?_
    rcases hno with hne | hlate
    · exact hne hphase
    · omega
  · simp only [execReadyAnswered, hf]
    rw [if_pos ⟨hphase, hdue, hbounds⟩, enterPhase_eq (s := s.mapDevice Device.becomeReady) hf]
    rfl
  · simp only [execTransferEnd, hf]
    refine if_neg fun ⟨hphase, htimed⟩ => ?_
    rcases hno with hne | ⟨a, n, hop⟩
    · exact hne hphase
    · rw [hop] at htimed
      cases htimed
  · intro a bytes hphase hop
    rw [execTransferEnd_selfTimed hf hphase (by rw [hop]; rfl), hop]
    rfl
  · intro n hphase hop
    rw [execTransferEnd_selfTimed hf hphase (by rw [hop]; rfl), hop]
    rfl

/-! ## The start-up wait (R168) -/

theorem quiet_blocksWait {s : State} (h : s.quiet) : s.blocksWait := ((quiet_iff s).1 h).1

/-- The head of the link-side queue has nothing to begin. -/
def State.headWaits (s : State) : Prop := s.port.headBegun = true ∨ s.port.items = [] ∨ s.exportWaits

theorem quiet_headWaits {s : State} (h : s.quiet) : s.headWaits := (headStep_none s).1 ((quiet_iff s).1 h).2.1

/-- With every block waiting and nothing asked of the port, the step is over. -/
theorem runBlocks_nothingAsked {t : State} (hw : t.blocksWait) (hh : t.headWaits) (hc : t.port.chosen = none) :
    runBlocks t = t :=
  runBlocks_quiet ((quiet_iff t).2 ⟨hw, (headStep_none t).2 hh, (grantStep_none t).2 fun _ => hc⟩)

/-- With every block waiting, the operation that the arbiter chooses takes the free slot, and the step is over. -/
theorem cascade_granted {t : State} {r : Requester} {op : MemOp} (n : Nat) (hw : t.blocksWait) (hh : t.headWaits)
    (hs : t.port.state = .idle) (hc : t.port.chosen = some (r, op)) :
    cascade (n + 1) t = t.mapPort fun p => p.grant r op t.now := by
  rw [cascade_step n (internalStep_grant hw hh hs hc)]
  apply cascade_quiet
  have hwait : (t.mapPort fun p => p.grant r op t.now).blocksWait :=
    (blocksWait_congr (s := t) (t := t.mapPort fun p => p.grant r op t.now) rfl rfl rfl rfl rfl rfl).2 hw
  have hhead : (t.mapPort fun p => p.grant r op t.now).headWaits := by cases r <;> exact hh
  refine (quiet_iff _).2 ⟨hwait, (headStep_none _).2 hhead, (grantStep_none _).2 fun hidle => ?_⟩
  cases hidle

theorem runBlocks_granted {t : State} {r : Requester} {op : MemOp} (hw : t.blocksWait) (hh : t.headWaits)
    (hs : t.port.state = .idle) (hc : t.port.chosen = some (r, op)) :
    runBlocks t = t.mapPort fun p => p.grant r op t.now := cascade_granted 4095 hw hh hs hc

/-- An item alone in the queue of a slot that is free begins, and its first operation takes the slot. -/
theorem runBlocks_begins {t u : State} {i : LinkItem} {r : Requester} {op : MemOp} (hw : t.blocksWait)
    (hi : t.port.items = [i]) (hb : t.port.headBegun = false) (hx : i.isExport = false ∨ t.journal.scan = none)
    (hu : beginItem i (t.mapPort fun p => { p with headBegun := true }) = u) (hwu : u.blocksWait) (hhu : u.headWaits)
    (hs : u.port.state = .idle) (hc : u.port.chosen = some (r, op)) :
    runBlocks t = u.mapPort fun p => p.grant r op u.now := by
  have hbound : cascadeBound = 4094 + 1 + 1 := rfl
  rw [runBlocks, hbound, cascade_step _ (internalStep_head hw hb hi hx), hu]
  exact cascade_granted 4094 hwu hhu hs hc

/-- The settings load's first READ is granted in the step in which the load begins (R189). -/
theorem runBlocks_settingsLoad {t : State} (hw : t.blocksWait) (hs : t.port.state = .idle) (hi : t.port.items = [])
    (hb : t.port.headBegun = false) (hj : t.port.journalRequest = none) (ht : t.port.translationRequest = none)
    (hl : t.port.linkRequest = none) :
    runBlocks (pushItem (.settingsLoad []) t) =
      t.mapPort fun p => p.serving (.settingsLoad []) (.read 0 256) t.now := by
  let u : State := { t with port := { t.port with
    items := [.settingsLoad []], headBegun := true, linkRequest := some (.read 0 256) } }
  have hwait : ∀ v : State, v.engine = t.engine → v.dict = t.dict → v.journal = t.journal → v.ring = t.ring →
      v.job = t.job → v.blocksWait := fun v he hd hjn hr hjob =>
    (blocksWait_congr (by rw [he]) (by rw [hd]) hjn hr (by rw [hjob]) (by rw [hjob])).2 hw
  have hbegin : beginItem (.settingsLoad []) ((pushItem (.settingsLoad []) t).mapPort fun p =>
      { p with headBegun := true }) = u := by
    simp only [beginItem, requestLink, pushItem, State.mapPort, hi]
    rfl
  rw [runBlocks_begins (t := pushItem (.settingsLoad []) t) (u := u) (r := .link) (op := .read 0 256)
    (hwait _ rfl rfl rfl rfl rfl) (by simp [pushItem, State.mapPort, hi]) hb (.inl rfl) hbegin
    (hwait _ rfl rfl rfl rfl rfl) (.inl rfl) hs (by simp [MemPort.chosen, u, hj, ht])]
  simp only [u, State.mapPort, MemPort.grant, MemPort.withdraw, MemPort.serving, hl]
  rfl

/-- The wait ends with what it does to the device and the link controller; the other blocks stay as they were. -/
theorem startWaitEnds_ready (s : State) : startWaitEnds true s = pushItem (.settingsLoad []) { s with
    boot := .settingsLoad, device := s.device.becomeReady
    port := { s.port with state := .idle, deviceReady := true } } := rfl

theorem startWaitEnds_timeout (s : State) : startWaitEnds false s = pushItem (.settingsLoad []) { s with
    boot := .settingsLoad, link := (raise .memoryFault s).link
    port := { s.port with
      state := .idle, deviceReady := false, faultCount := min (s.port.faultCount + 1) 0xFFFFFFFF } } := by
  have hlink := raise_congr (c := .memoryFault) (s := s) (t := { s with
    boot := .settingsLoad
    port := { s.port with
      state := .idle, deviceReady := false, faultCount := min (s.port.faultCount + 1) 0xFFFFFFFF } })
    rfl rfl rfl rfl rfl
  refine congrArg (pushItem (.settingsLoad [])) ?_
  rw [← hlink]
  exact raise_link .memoryFault _

/-- Settles O38. -/
theorem startUpWaitEnds : Obligations.StartUpWaitEnds := by
  intro s
  refine ⟨fun hno => if_neg ?_, fun hno => if_neg ?_, ?_, fun h => Device.becomeReady_idle _ h⟩
  · rintro ⟨hstate, hdue⟩
    rcases hno with hne | hlate
    · exact hne hstate
    · omega
  · rintro ⟨hstate, hover⟩
    rcases hno with hne | hearly
    · exact hne hstate
    · omega
  intro hstate hq hitems hbegun hjournal htranslation hlink
  have hwait : ∀ v : State, v.engine = s.engine → v.dict = s.dict → v.journal = s.journal → v.ring = s.ring →
      v.job = s.job → v.blocksWait := fun v he hd hjn hr hjob =>
    (blocksWait_congr (by rw [he]) (by rw [hd]) hjn hr (by rw [hjob]) (by rw [hjob])).2 (quiet_blocksWait hq)
  refine ⟨fun hdue => (if_pos ⟨hstate, hdue⟩).trans (congrArg Host.Outcome.next ?_),
    fun hover => (if_pos ⟨hstate, hover⟩).trans (congrArg Host.Outcome.next ?_)⟩
  · rw [startWaitEnds_ready]
    exact runBlocks_settingsLoad (hwait _ rfl rfl rfl rfl rfl) rfl hitems hbegun hjournal htranslation hlink
  · rw [startWaitEnds_timeout]
    exact runBlocks_settingsLoad (hwait _ rfl rfl rfl rfl rfl) rfl hitems hbegun hjournal htranslation hlink

/-! ## Image requests (R165 to R167, R43) -/

theorem beValue_one (b : Byte) : beValue [b] = b.toNat := by simp [beValue]

theorem beValue_three (b2 b1 b0 : Byte) :
    beValue [b2, b1, b0] = b2.toNat * 65536 + b1.toNat * 256 + b0.toNat := by
  simp only [beValue, List.foldl_cons, List.foldl_nil]
  omega

/-- The address and the count of an image request. -/
theorem imageFields (a2 a1 a0 n : Byte) (rest : List Byte) :
    fieldAt ([a2, a1, a0, n] ++ rest) 0 3 = a2.toNat * 65536 + a1.toNat * 256 + a0.toNat ∧
      fieldAt ([a2, a1, a0, n] ++ rest) 3 1 = n.toNat := ⟨beValue_three a2 a1 a0, beValue_one n⟩

theorem inRegion_iff {base count sector : Nat} :
    inRegion base count sector = true ↔ base ≤ sector ∧ sector < base + count := by simp [inRegion]

/-- The layers whose region holds a sector are marked INVALID with their check pending (R43). -/
theorem invalidateSector_eq (d : Dict) (sector : Nat) :
    d.invalidateSector sector =
      let mark (l : Layer) : Layer :=
        if l.base ≤ sector ∧ sector < l.base + l.count then
          { l with valid := false, checkPending := true, bucketBits := 8, entryCount := 0, imageLength := 0 }
        else l
      { d with layer1 := mark d.layer1, layer2 := mark d.layer2, layer3 := mark d.layer3 } := by
  simp only [Dict.invalidateSector, inRegion_iff, Layer.invalidate]
  rfl

theorem sectorProtected_iff {p : Params} {sector : Nat} :
    sectorProtected p sector = true ↔
      sector = 0 ∨ (p.journalBase ≤ sector ∧ sector < p.journalBase + p.journalCount) := by
  simp [sectorProtected, inRegion_iff]

theorem running_iff {j : Job} : j.running = true ↔ j.state = .opened ∨ j.state = .closing := by
  simp [Job.running]

/-- A request that makes its item waits behind an item in hand (R163). -/
theorem runBlocks_request_waits {s : State} (i : LinkItem) (hq : s.quiet) (hi : s.itemInHand) :
    runBlocks (pushItem i (s.mapLink Link.withTaken)) =
      { s with port := { s.port with items := s.port.items ++ [i] }, link := s.link.withTaken } :=
  runBlocks_pushItem_waits (s := s.mapLink Link.withTaken) i
    ((quiet_congr (s := s) (t := s.mapLink Link.withTaken) rfl rfl rfl rfl rfl rfl rfl).2 hq) hi

/-- A request that makes its item at a free port begins it, and its first operation takes the slot (R163). -/
theorem runBlocks_request_granted {s : State} {i i' : LinkItem} {op : MemOp} {d : Dict} (hq : s.quiet)
    (hf : s.portFree) (hx : i.isExport = false ∨ s.journal.scan = none) (hd : d.lookup = s.dict.lookup)
    (hb : beginItem i { s with
        link := s.link.withTaken, port := { s.port with items := [i], headBegun := true } } =
      requestLink op { s with
        link := s.link.withTaken, dict := d, port := { s.port with items := [i'], headBegun := true } }) :
    runBlocks (pushItem i (s.mapLink Link.withTaken)) =
      { s with port := s.port.serving i' op s.now, dict := d, link := s.link.withTaken } :=
  runBlocks_pushItem_granted (s := s.mapLink Link.withTaken) (t := { s with link := s.link.withTaken, dict := d })
    ((quiet_congr (s := s) (t := s.mapLink Link.withTaken) rfl rfl rfl rfl rfl rfl rfl).2 hq) hf hx hb rfl hd rfl rfl
    rfl rfl rfl rfl

theorem askImageRead_eq (tag a2 a1 a0 n : Byte) (s : State) :
    askImageRead ⟨kindImageRead, tag⟩ [a2, a1, a0, n] s =
      let addr := a2.toNat * 65536 + a1.toNat * 256 + a0.toNat
      if n.toNat < 1 ∨ 128 < n.toNat ∨ 16777216 < addr + n.toNat then
        answer ⟨kindImageRead, tag⟩ .badValue [] s
      else runBlocks (pushItem (.imageRead tag addr n.toNat) s) := by
  obtain ⟨haddr, hcount⟩ := imageFields a2 a1 a0 n []
  simp only [List.append_nil] at haddr hcount
  simp only [askImageRead, haddr, hcount]
  rfl

/-- The checks of an image request on the job (R166, R167): BUSY, then STATE. -/
theorem imageWriteRefusal_eq (p : Params) (a2 a1 a0 n : Byte) (bytes : List Byte) :
    imageWriteRefusal p ([a2, a1, a0, n] ++ bytes) =
      let addr := a2.toNat * 65536 + a1.toNat * 256 + a0.toNat
      if bytes.length ≠ n.toNat then some .badLength
      else if n.toNat < 1 ∨ 128 < n.toNat then some .badValue
      else if 256 < addr % 256 + n.toNat then some .badValue
      else if sectorProtected p (addr / 4096) then some .protected_
      else none := by
  obtain ⟨haddr, hcount⟩ := imageFields a2 a1 a0 n bytes
  have hlength : ([a2, a1, a0, n] ++ bytes).length ≠ 4 + n.toNat ↔ bytes.length ≠ n.toNat := by
    simp only [List.length_append, List.length_cons, List.length_nil]
    omega
  simp only [imageWriteRefusal, haddr, hcount, hlength]
  rfl

/-- An IMAGE_WRITE that passes the checks on the job is refused by its own, or waits for its turn (R166). -/
theorem askImageWrite_refused {s : State} (hopen : s.job.openPending = none) (hjob : s.job.state = .noJob)
    (r : Request) {payload : List Byte} {code : ReplyCode} (h : imageWriteRefusal s.params payload = some code) :
    askImageWrite r payload s = answer r code [] s := by
  simp only [askImageWrite, hopen, Job.running, hjob, h]
  rfl

theorem askImageWrite_passed {s : State} (hopen : s.job.openPending = none) (hjob : s.job.state = .noJob)
    (r : Request) {payload : List Byte} (h : imageWriteRefusal s.params payload = none) :
    askImageWrite r payload s =
      runBlocks (pushItem (.imageWrite r.tag (fieldAt payload 0 3) (payload.drop 4) false) s) := by
  simp only [askImageWrite, hopen, Job.running, hjob, h]
  rfl

theorem askImageErase_passed {s : State} (hopen : s.job.openPending = none) (hjob : s.job.state = .noJob)
    (tag s1 s0 : Byte) :
    askImageErase ⟨kindImageErase, tag⟩ [s1, s0] s =
      let sector := s1.toNat * 256 + s0.toNat
      if 4096 ≤ sector then answer ⟨kindImageErase, tag⟩ .badValue [] s
      else if sectorProtected s.params sector then answer ⟨kindImageErase, tag⟩ .protected_ [] s
      else runBlocks (pushItem (.imageErase tag sector) s) := by
  have hsector : fieldAt [s1, s0] 0 2 = s1.toNat * 256 + s0.toNat := beValue_two s1 s0
  simp [askImageErase, hopen, Job.running, hjob, hsector, Config.memorySectors]

/-- Settles O43. -/
theorem imageRequestsReachThePort : Obligations.ImageRequestsReachThePort := by
  intro tag a2 a1 a0 n s1 s0 bytes s hs addr sector read write erase guarded mark marked free waits waiting
  have hread : exec read s = .next (askImageRead ⟨kindImageRead, tag⟩ [a2, a1, a0, n] (s.mapLink Link.withTaken)) :=
    exec_serves hs rfl rfl
  have hwrite : exec write s =
      .next (askImageWrite ⟨kindImageWrite, tag⟩ ([a2, a1, a0, n] ++ bytes) (s.mapLink Link.withTaken)) :=
    exec_serves hs rfl rfl
  have herase : exec erase s = .next (askImageErase ⟨kindImageErase, tag⟩ [s1, s0] (s.mapLink Link.withTaken)) :=
    exec_serves hs rfl rfl
  have hrefused (kind : Byte) (code : ReplyCode) :
      answer ⟨kind, tag⟩ code [] (s.mapLink Link.withTaken) = s.answering kind tag [replyCodeByte code] :=
    answer_taken_answering kind tag code [] s
  have hmarked (k : Nat) : s.dict.invalidateSector k = marked k := invalidateSector_eq s.dict k
  rw [hread, hwrite, herase, askImageRead_eq]
  refine ⟨fun hbad => ?_, fun hlow hhigh hfits => ?_, fun hopen => ?_, fun hopen hrunning => ?_, fun hopen hjob => ?_⟩
  · rw [if_pos hbad, hrefused]
    rfl
  · rw [if_neg (by omega)]
    exact ⟨fun hfree => congrArg Host.Outcome.next (runBlocks_request_granted hfree.1 hfree.2 (.inl rfl) rfl rfl),
      fun hwait => congrArg Host.Outcome.next (runBlocks_request_waits _ hwait.1 hwait.2)⟩
  · have hbusy : s.job.openPending.isSome = true := Option.isSome_iff_ne_none.2 hopen
    exact ⟨congrArg Host.Outcome.next ((if_pos hbusy).trans (hrefused kindImageWrite .busy)),
      congrArg Host.Outcome.next ((if_pos hbusy).trans (hrefused kindImageErase .busy))⟩
  · have hidle : ¬ s.job.openPending.isSome = true := by simp [hopen]
    have hstate : s.job.running = true := running_iff.2 hrunning
    exact ⟨congrArg Host.Outcome.next ((if_neg hidle).trans ((if_pos hstate).trans (hrefused kindImageWrite .state))),
      congrArg Host.Outcome.next ((if_neg hidle).trans ((if_pos hstate).trans (hrefused kindImageErase .state)))⟩
  · have hrefuse {code : ReplyCode} (h : imageWriteRefusal s.params ([a2, a1, a0, n] ++ bytes) = some code) :
        askImageWrite ⟨kindImageWrite, tag⟩ ([a2, a1, a0, n] ++ bytes) (s.mapLink Link.withTaken) =
          s.answering kindImageWrite tag [replyCodeByte code] :=
      (askImageWrite_refused (s := s.mapLink Link.withTaken) hopen hjob _ h).trans (hrefused kindImageWrite code)
    have hpass (h : imageWriteRefusal s.params ([a2, a1, a0, n] ++ bytes) = none) :
        askImageWrite ⟨kindImageWrite, tag⟩ ([a2, a1, a0, n] ++ bytes) (s.mapLink Link.withTaken) =
          runBlocks (pushItem (.imageWrite tag addr bytes false) (s.mapLink Link.withTaken)) := by
      rw [askImageWrite_passed (s := s.mapLink Link.withTaken) hopen hjob _ h, (imageFields a2 a1 a0 n bytes).1]
      rfl
    rw [imageWriteRefusal_eq] at hrefuse hpass
    rw [askImageErase_passed (s := s.mapLink Link.withTaken) hopen hjob]
    refine ⟨fun hlen => ?_, fun hlen hbad => ?_, fun hlen hlow hhigh hline => ?_, fun hbad => ?_, fun hsector => ?_⟩
    · exact congrArg Host.Outcome.next (hrefuse (if_pos hlen))
    · refine congrArg Host.Outcome.next (hrefuse (code := .badValue) ((if_neg (Classical.not_not.2 hlen)).trans ?_))
      by_cases hcount : n.toNat < 1 ∨ 128 < n.toNat
      · exact if_pos hcount
      · exact (if_neg hcount).trans (if_pos (by omega))
    · rw [if_neg (Classical.not_not.2 hlen), if_neg (show ¬ (n.toNat < 1 ∨ 128 < n.toNat) by omega),
        if_neg (Nat.not_lt.2 hline)] at hrefuse hpass
      refine ⟨fun hguarded => ?_, fun hallowed hfree => ?_, fun hallowed hwait => ?_⟩
      · exact congrArg Host.Outcome.next (hrefuse (if_pos (sectorProtected_iff.2 hguarded)))
      · rw [hpass (if_neg fun h => hallowed (sectorProtected_iff.1 h))]
        exact congrArg Host.Outcome.next
          (runBlocks_request_granted hfree.1 hfree.2 (.inl rfl) rfl (by rw [← hmarked]; rfl))
      · rw [hpass (if_neg fun h => hallowed (sectorProtected_iff.1 h))]
        exact congrArg Host.Outcome.next (runBlocks_request_waits _ hwait.1 hwait.2)
    · rw [if_pos hbad]
      exact congrArg Host.Outcome.next (hrefused kindImageErase .badValue)
    · rw [if_neg (by omega)]
      refine ⟨fun hguarded => ?_, fun hallowed hfree => ?_, fun hallowed hwait => ?_⟩
      · exact congrArg Host.Outcome.next
          ((if_pos (sectorProtected_iff.2 hguarded)).trans (hrefused kindImageErase .protected_))
      · refine congrArg Host.Outcome.next ((if_neg fun h => hallowed (sectorProtected_iff.1 h)).trans ?_)
        exact runBlocks_request_granted hfree.1 hfree.2 (.inl rfl) rfl (by rw [← hmarked]; rfl)
      · refine congrArg Host.Outcome.next ((if_neg fun h => hallowed (sectorProtected_iff.1 h)).trans ?_)
        exact runBlocks_request_waits _ hwait.1 hwait.2

end Sys2Proof.Machine
end

section
/-! PROOFS. The end of a memory operation (R161): the bytes that a PROGRAM and an ERASE change (R159), and what their
requesters do next in the same step. -/

namespace Sys2Proof.Machine

/-! ## What follows the end of an operation in the same step -/

/-- The blocks wait where the journal waits and the other blocks' work is as in a state in which they wait. -/
theorem blocksWait_journal {s t : State} (hs : s.blocksWait) (he : t.engine.work = s.engine.work)
    (hl : t.dict.lookup = s.dict.lookup) (hr : t.ring = s.ring) (hj : journalStep t = none)
    (ha : t.job.abortPending = s.job.abortPending) (hg : t.journal.aborting = s.journal.aborting) : t.blocksWait := by
  obtain ⟨heval, htake, hdrain, -, habort⟩ := hs
  simp only [Engine.work, Prod.mk.injEq] at he
  obtain ⟨hrun, hstate, hwindow, hclose⟩ := he
  rw [evaluationStep_none] at heval
  rw [takeStep_none] at htake
  rw [drainStep_none] at hdrain
  rw [abortStep_none] at habort
  refine ⟨(evaluationStep_none t).2 ?_, (takeStep_none t).2 ?_, (drainStep_none t).2 ?_, hj, (abortStep_none t).2 ?_⟩
  · rw [hrun, hl]; exact heval
  · rw [hstate, hwindow, hr]; exact htake
  · rw [hstate, hclose, hr]; exact hdrain
  · rw [ha, hg]; exact habort

/-- The blocks wait where all that their work depends on is as in a state in which they wait. -/
theorem blocksWait_same {s t : State} (hs : s.blocksWait) (he : t.engine.work = s.engine.work)
    (hl : t.dict.lookup = s.dict.lookup) (hj : t.journal = s.journal) (hr : t.ring = s.ring)
    (hd : t.job.translationDrained = s.job.translationDrained)
    (ha : t.job.abortPending = s.job.abortPending) : t.blocksWait := (blocksWait_congr he hl hj hr hd ha).2 hs

theorem journalStep_scan {s : State} {stage : ScanStage} (h : s.journal.scan = some stage) : journalStep s = none := by
  simp [journalStep, h]

theorem chosen_none {p : MemPort} :
    p.chosen = none ↔ p.journalRequest = none ∧ p.translationRequest = none ∧ p.linkRequest = none := by
  unfold MemPort.chosen
  cases p.journalRequest <;> cases p.translationRequest <;> simp

/-- The port with its slot given to a requester's operation (R163). -/
def MemPort.runs (p : MemPort) (r : Requester) (op : MemOp) (now : Nat) : MemPort :=
  { p with state := .busy, inFlight := some ⟨op, r, .readyWait, now + 5, false⟩ }

/-- The journal's request at a free slot that nothing else asks for is granted in the same step. -/
theorem runBlocks_requestJournal {t : State} (op : MemOp) (hw : t.blocksWait) (hh : t.headWaits)
    (hs : t.port.state = .idle) (hc : t.port.chosen = none) :
    runBlocks (requestJournal op t) = { t with port := t.port.runs .journal op t.now } := by
  obtain ⟨hj, ht, hl⟩ := chosen_none.1 hc
  have hwait : (requestJournal op t).blocksWait :=
    (blocksWait_congr (s := t) (t := requestJournal op t) rfl rfl rfl rfl rfl rfl).2 hw
  rw [runBlocks_granted (t := requestJournal op t) (r := .journal) (op := op) hwait hh hs rfl]
  simp only [requestJournal, State.mapPort, MemPort.grant, MemPort.withdraw, MemPort.runs, hj]
  rfl

/-- The head item's request at a free slot that nothing else asks for is granted in the same step. -/
theorem runBlocks_requestLink {t : State} (op : MemOp) (hw : t.blocksWait) (hh : t.headWaits)
    (hs : t.port.state = .idle) (hc : t.port.chosen = none) :
    runBlocks (requestLink op t) = { t with port := t.port.runs .link op t.now } := by
  obtain ⟨hj, ht, hl⟩ := chosen_none.1 hc
  have hwait : (requestLink op t).blocksWait :=
    (blocksWait_congr (s := t) (t := requestLink op t) rfl rfl rfl rfl rfl rfl).2 hw
  rw [runBlocks_granted (t := requestLink op t) (r := .link) (op := op) hwait hh hs
    (by simp [requestLink, State.mapPort, MemPort.chosen, hj, ht])]
  simp only [requestLink, State.mapPort, MemPort.grant, MemPort.withdraw, MemPort.runs, hl]
  rfl

/-- The lookup's request at a free slot that nothing else asks for is granted in the same step. -/
theorem runBlocks_requestTranslation {t : State} (op : MemOp) (hw : t.blocksWait) (hh : t.headWaits)
    (hs : t.port.state = .idle) (hc : t.port.chosen = none) :
    runBlocks (requestTranslation op t) = { t with port := t.port.runs .translation op t.now } := by
  obtain ⟨hj, ht, hl⟩ := chosen_none.1 hc
  have hwait : (requestTranslation op t).blocksWait :=
    (blocksWait_congr (s := t) (t := requestTranslation op t) rfl rfl rfl rfl rfl rfl).2 hw
  rw [runBlocks_granted (t := requestTranslation op t) (r := .translation) (op := op) hwait hh hs
    (by simp [requestTranslation, State.mapPort, MemPort.chosen, hj])]
  simp only [requestTranslation, State.mapPort, MemPort.grant, MemPort.withdraw, MemPort.runs, ht]
  rfl

/-! ## The end of an operation -/

/-- The outcome of an operation, dropped or handed to its requester (R161). -/
theorem operationEnds_dropped {f : InFlight} (h : f.dropped = true) (o : OpOutcome) (s : State) :
    operationEnds f o s = freeSlot s := by simp only [operationEnds, h, if_true]

theorem operationEnds_journal {f : InFlight} (h : f.dropped = false) (hr : f.requester = .journal) (o : OpOutcome)
    (s : State) : operationEnds f o s = journalOutcome o (freeSlot s) := by
  simp [operationEnds, h, hr]

theorem operationEnds_link {f : InFlight} (h : f.dropped = false) (hr : f.requester = .link) (o : OpOutcome)
    {s : State} {i : LinkItem} {rest : List LinkItem} (hi : s.port.items = i :: rest) :
    operationEnds f o s = itemOutcome i o (freeSlot s) := by
  have hitems : (freeSlot s).port.items = i :: rest := hi
  simp [operationEnds, h, hr, linkOutcome, hitems]

/-- The device finishes an operation in BUSY_WAIT within its deadline, and its requester is told (R161). -/
theorem exec_programComplete {s : State} {f : InFlight} {a : Nat} {bytes : List Byte} (h : s.port.inFlight = some f)
    (hphase : f.phase = .busyWait) (hdue : s.now ≤ f.deadline) (hop : f.op = .program a bytes) :
    exec .programComplete s = .next (selfTimedCompletes f s) := by
  have hexec : exec .programComplete s = execProgramComplete s := rfl
  rw [hexec]
  simp only [execProgramComplete, h]
  exact if_pos ⟨hphase, by rw [hop]; rfl, hdue⟩

theorem exec_eraseComplete {s : State} {f : InFlight} {n : Nat} (h : s.port.inFlight = some f)
    (hphase : f.phase = .busyWait) (hdue : s.now ≤ f.deadline) (hop : f.op = .erase n) :
    exec .eraseComplete s = .next (selfTimedCompletes f s) := by
  have hexec : exec .eraseComplete s = execEraseComplete s := rfl
  rw [hexec]
  simp only [execEraseComplete, h]
  exact if_pos ⟨hphase, by rw [hop]; rfl, hdue⟩

theorem selfTimedCompletes_device (f : InFlight) (s : State) :
    (selfTimedCompletes f s).device = s.device.finish f.op := by
  have henv : (selfTimedCompletes f s).env = (s.mapDevice fun d => d.finish f.op).env :=
    (env_out (runBlocks_outside _)).trans (operationEnds_env ..)
  exact (env_eq.1 henv).1

/-- The part at the end of an operation: the slot is free, and the device is as the operation left it. -/
def State.freed (s : State) (d : Device) : State :=
  { s with device := d, port := { s.port with state := .idle, inFlight := none } }

theorem freed_blocksWait {s : State} (hq : s.quiet) (d : Device) : (s.freed d).blocksWait :=
  (blocksWait_congr (s := s) (t := s.freed d) rfl rfl rfl rfl rfl rfl).2 (quiet_blocksWait hq)

theorem headWaits_congr {s t : State} (hb : t.port.headBegun = s.port.headBegun) (hi : t.port.items = s.port.items)
    (hs : t.journal.scan = s.journal.scan) (h : s.headWaits) : t.headWaits := by
  simpa only [State.headWaits, State.exportWaits, hb, hi, hs] using h

theorem freed_headWaits {s : State} (hq : s.quiet) (d : Device) : (s.freed d).headWaits :=
  headWaits_congr (s := s) (t := s.freed d) rfl rfl rfl (quiet_headWaits hq)

/-- The journal goes on to its next operation, which takes the slot. -/
theorem runBlocks_journalGoesOn {u x : State} {j : Journal} {op : MemOp} (hx : x = requestJournal op { u with journal := j })
    (hw : u.blocksWait) (hh : u.headWaits) (hs : u.port.state = .idle) (hc : u.port.chosen = none)
    (hop : j.op ≠ .waiting ∨ j.scan.isSome = true) (hscan : j.scan = u.journal.scan ∨ u.port.items = [])
    (hg : j.aborting = u.journal.aborting) :
    runBlocks x = { u with journal := j, port := u.port.runs .journal op u.now } := by
  have hjournal : journalStep { u with journal := j } = none := by
    rcases hop with hop | hop
    · exact journalStep_busy hop
    · obtain ⟨stage, hstage⟩ := Option.isSome_iff_exists.1 hop
      exact journalStep_scan hstage
  have hhead : ({ u with journal := j } : State).headWaits := by
    rcases hscan with hscan | hitems
    · exact headWaits_congr (s := u) rfl rfl hscan hh
    · exact .inr (.inl hitems)
  rw [hx]
  exact runBlocks_requestJournal op (blocksWait_journal hw rfl rfl rfl hjournal rfl hg) hhead hs hc

/-- The item in hand goes on to its next operation, which takes the slot. -/
theorem runBlocks_itemGoesOn {u x : State} {i i' : LinkItem} {op : MemOp} (hx : x = requestLink op (setHead i' u))
    (hi : u.port.items = [i]) (hb : u.port.headBegun = true) (hw : u.blocksWait) (hs : u.port.state = .idle)
    (hc : u.port.chosen = none) :
    runBlocks x = { u with port := { u.port.runs .link op u.now with items := [i'] } } := by
  have hset : setHead i' u = { u with port := { u.port with items := [i'] } } := by
    simp only [setHead, State.mapPort, hi]
    rfl
  rw [hx, hset]
  exact runBlocks_requestLink op (blocksWait_same hw rfl rfl rfl rfl rfl rfl) (.inl hb) hs hc

/-- The item in hand ends with its reply, and nothing else is asked of the port. -/
theorem runBlocks_itemEnds {u : State} {i : LinkItem} (hi : u.port.items = [i]) (kind tag : Byte) (code : ReplyCode)
    (fields : List Byte) (hw : u.blocksWait) (hc : u.port.chosen = none) :
    runBlocks (reply kind tag code fields (popItem u)) =
      { u with
        port := { u.port with items := [], headBegun := false }
        link := u.link.withReply u.now kind tag (replyCodeByte code :: fields) } := by
  have hpop : reply kind tag code fields (popItem u) =
      { u with
        port := { u.port with items := [], headBegun := false }
        link := u.link.withReply u.now kind tag (replyCodeByte code :: fields) } := by
    rw [reply_eq]
    simp only [popItem, State.mapPort, State.mapLink, hi]
    rfl
  rw [hpop]
  exact runBlocks_nothingAsked (blocksWait_same hw rfl rfl rfl rfl rfl rfl) (.inr (.inl rfl)) hc

/-- An outcome that is dropped frees the slot, and nothing else follows. -/
theorem selfTimedCompletes_dropped {f : InFlight} {s : State} (h : f.dropped = true) (hq : s.quiet)
    (hc : s.port.chosen = none) : selfTimedCompletes f s = s.freed (s.device.finish f.op) := by
  rw [selfTimedCompletes, operationEnds_dropped h]
  exact runBlocks_nothingAsked (t := s.freed (s.device.finish f.op)) (freed_blocksWait hq _) (freed_headWaits hq _) hc

/-- A journal operation that follows another of the journal's. -/
theorem selfTimedCompletes_journal {f : InFlight} {s : State} {j : Journal} {op : MemOp} (h : f.dropped = false)
    (hr : f.requester = .journal) (hq : s.quiet) (hc : s.port.chosen = none)
    (hnext : journalOutcome (.success []) (s.freed (s.device.finish f.op)) =
      requestJournal op { s.freed (s.device.finish f.op) with journal := j })
    (hop : j.op ≠ .waiting) (hscan : j.scan = s.journal.scan) (hg : j.aborting = s.journal.aborting) :
    selfTimedCompletes f s =
      { s with device := s.device.finish f.op, journal := j, port := s.port.runs .journal op s.now } := by
  rw [selfTimedCompletes, operationEnds_journal h hr]
  exact runBlocks_journalGoesOn (u := s.freed (s.device.finish f.op)) hnext (freed_blocksWait hq _)
    (freed_headWaits hq _) rfl hc (.inl hop) (.inl hscan) hg

/-- An item of the link-side queue that goes on to a further operation. -/
theorem selfTimedCompletes_item {f : InFlight} {s : State} {i i' : LinkItem} {op : MemOp} (h : f.dropped = false)
    (hr : f.requester = .link) (hq : s.quiet) (hc : s.port.chosen = none) (hb : s.port.headBegun = true)
    (hi : s.port.items = [i])
    (hnext : itemOutcome i (.success []) (s.freed (s.device.finish f.op)) =
      requestLink op (setHead i' (s.freed (s.device.finish f.op)))) :
    selfTimedCompletes f s =
      { s with
        device := s.device.finish f.op
        port := { s.port.runs .link op s.now with items := [i'] } } := by
  rw [selfTimedCompletes, operationEnds_link (s := s.mapDevice fun d => d.finish f.op) h hr _ (rest := []) hi]
  exact runBlocks_itemGoesOn (u := s.freed (s.device.finish f.op)) hnext hi hb (freed_blocksWait hq _) rfl hc

/-- An IMAGE_ERASE that has ended is answered (R167). -/
theorem selfTimedCompletes_imageErase {f : InFlight} {s : State} {tag : Byte} {sector : Nat} (h : f.dropped = false)
    (hr : f.requester = .link) (hq : s.quiet) (hc : s.port.chosen = none)
    (hi : s.port.items = [.imageErase tag sector]) :
    selfTimedCompletes f s =
      { s with
        device := s.device.finish f.op
        port := { s.port with state := .idle, inFlight := none, items := [], headBegun := false }
        link := s.link.withReply s.now kindImageErase tag [0x00] } := by
  rw [selfTimedCompletes, operationEnds_link (s := s.mapDevice fun d => d.finish f.op) h hr _ (rest := []) hi]
  exact runBlocks_itemEnds (u := s.freed (s.device.finish f.op)) hi _ _ .ok [] (freed_blocksWait hq _) hc

/-- The address of a slot of the region, and of a sector's header (R136). -/
theorem slotAddr_eq (s : State) (sector slot : Nat) :
    slotAddr s sector slot = (s.params.journalBase + sector) * 4096 + 32 * slot := rfl

theorem slotAddr_header (s : State) (sector : Nat) :
    slotAddr s sector 0 = (s.params.journalBase + sector) * 4096 := by rw [slotAddr_eq, Nat.mul_zero, Nat.add_zero]

/-- The recovery scan that begins with nothing in hand at the port (R157): the table is cleared, and slot 0 of the
first sector is read. -/
theorem beginScan_eq {u : State} (replies : List ScanReply) (hitems : u.port.items = []) (hb : u.port.headBegun = false)
    (hf : u.port.inFlight = none) (hj : u.port.journalRequest = none) (hn : 0 < u.params.journalCount) :
    beginScan replies u =
      requestJournal (.read (u.params.journalBase * 4096) 32) { u with journal := { u.journal with
        sectors := List.replicate u.params.journalCount ⟨.blank, none⟩, current := none, nextSector := none
        slotSpent := false, op := .waiting, scan := some (.classify 0 false)
        scanReplies := u.journal.scanReplies ++ replies } } := by
  have hidle : u = { u with port := { u.port with
      items := [], headBegun := false, inFlight := none, journalRequest := none } } := by
    rw [← hitems, ← hb, ← hf, ← hj]
  have hscan : beginScan replies { u with port := { u.port with
        items := [], headBegun := false, inFlight := none, journalRequest := none } } =
      scanClassify 0 { u with
        port := { u.port with items := [], headBegun := false, inFlight := none, journalRequest := none }
        journal := { u.journal with
          sectors := List.replicate u.params.journalCount ⟨.blank, none⟩, current := none, nextSector := none
          slotSpent := false, op := .waiting, scanReplies := u.journal.scanReplies ++ replies } } := rfl
  rw [hidle, hscan, scanClassify, if_pos hn, slotAddr_header, Nat.add_zero]
  rfl

/-! ## PROGRAM_COMPLETE and ERASE_COMPLETE -/

/-- A byte programmed holds its old value AND the value programmed (R159). -/
theorem finish_program_byte {d : Device} (hd : Mem.wf d.mem = true) (a : Nat) {bytes : List Byte} {i : Nat} {b : Byte}
    (h : bytes[i]? = some b) :
    Mem.read1 (d.finish (.program a bytes)).mem (a + i) = Mem.read1 d.mem (a + i) &&& b := by
  obtain ⟨hlt, hget⟩ := List.getElem?_eq_some_iff.1 h
  refine (Mem.read1_program bytes a (a + i) hd).trans ((if_pos ⟨by omega, by omega⟩).trans ?_)
  rw [Nat.add_sub_cancel_left, List.getD_eq_getElem?_getD, h]
  rfl

theorem finish_program_outside {d : Device} (hd : Mem.wf d.mem = true) (a : Nat) (bytes : List Byte) {b : Nat}
    (hb : b < a ∨ a + bytes.length ≤ b) : Mem.read1 (d.finish (.program a bytes)).mem b = Mem.read1 d.mem b :=
  (Mem.read1_program bytes a b hd).trans (if_neg (by omega))

/-- The bytes of a sector erased read FFh (R159). -/
theorem finish_erase_inside (d : Device) (n : Nat) {b : Nat} (hlow : n * 4096 ≤ b) (hhigh : b < n * 4096 + 4096) :
    Mem.read1 (d.finish (.erase n)).mem b = 0xFF := by
  have hsector : b / Config.sectorBytes = n := by
    change b / 4096 = n
    omega
  exact (Mem.read1_erase d.mem n b).trans (if_pos hsector)

theorem finish_erase_outside (d : Device) (n : Nat) {b : Nat} (hb : b < n * 4096 ∨ n * 4096 + 4096 ≤ b) :
    Mem.read1 (d.finish (.erase n)).mem b = Mem.read1 d.mem b := by
  have hsector : b / Config.sectorBytes ≠ n := by
    change b / 4096 ≠ n
    omega
  exact (Mem.read1_erase d.mem n b).trans (if_neg hsector)

/-- Outside a scan and an abort the outcome of a journal operation goes to the work that is in hand (R169). -/
theorem journalOutcome_work {s : State} (hscan : s.journal.scan = none) (habort : s.journal.aborting = false)
    (o : OpOutcome) : journalOutcome o s = workOutcome o s := by
  simp [journalOutcome, hscan, habort]

/-- The ERASE and the three PROGRAMs of a STORE_SETTINGS are each followed by its next operation (R188). -/
theorem storeOutcome_goesOn (tag : Byte) (record : List Byte) {done : Nat} (same : Bool) (bytes : List Byte)
    (h : done < 4) (s : State) :
    storeOutcome tag record done same (.success bytes) s =
      requestLink (storeOp record (done + 1)) (setHead (.storeSettings tag record (done + 1) same) s) := by
  simp [storeOutcome, h, show done < 6 by omega]

/-- The last sector of a JOURNAL_ERASE: the recovery scan begins, and its first READ takes the slot (R156). -/
theorem selfTimedCompletes_lastErase {f : InFlight} {s : State} {tag : Byte} {x erased : Nat} (h : f.dropped = false)
    (hr : f.requester = .link) (hq : s.quiet) (hc : s.port.chosen = none)
    (hi : s.port.items = [.journalErase tag [x] erased]) (hn : 0 < s.params.journalCount) :
    selfTimedCompletes f s =
      { s with
        device := s.device.finish f.op
        journal := { s.journal with
          sectors := List.replicate s.params.journalCount ⟨.blank, none⟩, current := none, nextSector := none
          slotSpent := false, op := .waiting, scan := some (.classify 0 false)
          scanReplies := s.journal.scanReplies ++ [.erase tag (erased + 1)] }
        port := { s.port.runs .journal (.read (s.params.journalBase * 4096) 32) s.now with
          items := [], headBegun := false } } := by
  obtain ⟨hj, ht, hl⟩ := chosen_none.1 hc
  let u : State := { s with
    device := s.device.finish f.op
    port := { s.port with state := .idle, inFlight := none, items := [], headBegun := false } }
  have hpop : popItem (s.freed (s.device.finish f.op)) = u := by
    simp only [popItem, State.mapPort, State.freed, hi]
    rfl
  have hwait : u.blocksWait := blocksWait_same (quiet_blocksWait hq) rfl rfl rfl rfl rfl rfl
  rw [selfTimedCompletes, operationEnds_link (s := s.mapDevice fun d => d.finish f.op) h hr _ (rest := []) hi]
  refine (congrArg runBlocks ((congrArg (beginScan _) hpop).trans (beginScan_eq _ rfl rfl rfl hj hn))).trans ?_
  exact runBlocks_journalGoesOn (u := u) rfl hwait (.inr (.inl rfl)) rfl hc (.inr rfl) (.inr rfl) rfl

/-- Settles O40. -/
theorem programsAndErasesChangeTheirBytes : Obligations.ProgramsAndErasesChangeTheirBytes := by
  intro s f hmem hf hphase hdue freed granted undisturbed serves linkGoesOn
  have hgoesOn {i i' : LinkItem} {op : MemOp} (h : serves i)
      (hnext : itemOutcome i (.success []) (s.freed (s.device.finish f.op)) =
        requestLink op (setHead i' (s.freed (s.device.finish f.op)))) :
      linkGoesOn (selfTimedCompletes f s) i' op := by
    obtain ⟨⟨hkept, hrequester, hq, hc⟩, hb, hi⟩ := h
    change selfTimedCompletes f s = _
    rw [selfTimedCompletes_device]
    exact selfTimedCompletes_item hkept hrequester hq hc hb hi hnext
  refine ⟨fun a bytes hop => ⟨selfTimedCompletes f s, exec_programComplete hf hphase hdue hop, ?_, ?_, ?_, ?_, ?_, ?_⟩,
    fun n hop => ⟨selfTimedCompletes f s, exec_eraseComplete hf hphase hdue hop, ?_, ?_, ?_, ?_, ?_, ?_, ?_⟩⟩
  · intro i b hb
    rw [selfTimedCompletes_device, hop]
    exact finish_program_byte hmem a hb
  · intro b hb
    rw [selfTimedCompletes_device, hop]
    exact finish_program_outside hmem a bytes hb
  · intro hdropped hq hc
    rw [selfTimedCompletes_device]
    exact selfTimedCompletes_dropped hdropped hq hc
  · rintro ⟨hkept, hrequester, hq, hc⟩ hscan habort place reads
    have hnext {j : Journal} {op : MemOp} (hwork : workOutcome (.success []) (s.freed (s.device.finish f.op)) =
        requestJournal op { s.freed (s.device.finish f.op) with journal := j }) (hop : j.op ≠ .waiting)
        (hs : j.scan = s.journal.scan) (hg : j.aborting = s.journal.aborting) :
        selfTimedCompletes f s =
          { s with
            device := (selfTimedCompletes f s).device, journal := j, port := s.port.runs .journal op s.now } := by
      rw [selfTimedCompletes_device]
      exact selfTimedCompletes_journal hkept hrequester hq hc
        ((journalOutcome_work (s := s.freed (s.device.finish f.op)) hscan habort _).trans hwork) hop hs hg
    refine ⟨fun w hw => ?_, fun w hw => ?_, fun w hw => ?_, fun n h hw => ?_, fun n h hw => ?_, fun n hw => ?_,
      fun n hw => ?_, fun n k hw => ?_⟩
    all_goals
      refine hnext ?_ (by intro h; cases h) rfl rfl
      have hop : (s.freed (s.device.finish f.op)).journal.op = _ := hw
      simp only [workOutcome, hop]
      rfl
  · intro tag addr wanted h
    exact hgoesOn h rfl
  · intro tag record same
    exact ⟨fun h => hgoesOn h (storeOutcome_goesOn (done := 1) tag record same [] (by decide) _),
      fun h => hgoesOn h (storeOutcome_goesOn (done := 2) tag record same [] (by decide) _),
      fun h => hgoesOn h (storeOutcome_goesOn (done := 3) tag record same [] (by decide) _)⟩
  · intro b hlow hhigh
    rw [selfTimedCompletes_device, hop]
    exact finish_erase_inside s.device n hlow hhigh
  · intro b hb
    rw [selfTimedCompletes_device, hop]
    exact finish_erase_outside s.device n hb
  · intro hdropped hq hc
    rw [selfTimedCompletes_device]
    exact selfTimedCompletes_dropped hdropped hq hc
  · intro tag record same h
    exact hgoesOn h (storeOutcome_goesOn (done := 0) tag record same [] (by decide) _)
  · rintro tag sector ⟨⟨hkept, hrequester, hq, hc⟩, hb, hi⟩
    rw [selfTimedCompletes_device]
    exact selfTimedCompletes_imageErase hkept hrequester hq hc hi
  · intro tag erased x y todo h
    exact hgoesOn h rfl
  · rintro tag erased x ⟨⟨hkept, hrequester, hq, hc⟩, hb, hi⟩ hn
    rw [selfTimedCompletes_device]
    exact selfTimedCompletes_lastErase hkept hrequester hq hc hi hn

end Sys2Proof.Machine
end

section
/-! PROOFS. READ_COMPLETE at the image requests and the dictionary walk (R165, R166, R47), and LAYER_SET (R40, R41). -/

namespace Sys2Proof.Machine

/-! ## The bytes of a READ (R161) -/

/-- The bytes a READ returns: the memory's, each with the bits that came back wrong (log 13). -/
def Device.got (d : Device) (addr n : Nat) (flips : List Byte) : List Byte :=
  (List.range n).map fun i => Mem.read1 d.mem (addr + i) ^^^ flips.getD i 0

theorem readBytes_got (d : Device) (addr n : Nat) (flips : List Byte) : d.readBytes addr n flips = d.got addr n flips := by
  apply List.ext_getElem
  · simp [Device.readBytes, Mem.read, Device.got]
  · intro i h1 h2
    have hi : i < n := by simpa [Device.got] using h2
    simp only [Device.readBytes, Device.got, Mem.read, List.getElem_zipWith, List.getElem_map, List.getElem_range,
      List.getElem_take, List.getElem_append, List.getElem_replicate, List.getD_eq_getElem?_getD]
    by_cases hf : i < flips.length
    · rw [dif_pos hf, List.getElem?_eq_getElem hf]; rfl
    · rw [dif_neg hf, List.getElem?_eq_none (Nat.le_of_not_lt hf)]; rfl

@[simp] theorem Device.got_length (d : Device) (addr n : Nat) (flips : List Byte) : (d.got addr n flips).length = n := by
  simp [Device.got]

/-- READ_COMPLETE of a READ in TRANSFER (R161). -/
theorem exec_readComplete {s : State} {addr n deadline : Nat} {r : Requester} {flips : List Byte}
    (h : s.port.inFlight = some ⟨.read addr n, r, .transfer, deadline, false⟩) :
    exec (.readComplete flips) s = .next (runBlocks
      (operationEnds ⟨.read addr n, r, .transfer, deadline, false⟩ (.success (s.device.got addr n flips)) s)) := by
  have hexec : exec (.readComplete flips) s = execReadComplete flips s := rfl
  rw [hexec]
  simp only [execReadComplete, h, InFlight.readBytes, if_true, readBytes_got]

/-! ## IMAGE_READ and IMAGE_WRITE (R165, R166) -/

theorem byteAt_bne {a b : List Byte} {i : Nat} (ha : i < a.length) (hb : i < b.length) :
    (byteAt a i != byteAt b i) = true ↔ a[i]? ≠ b[i]? := by
  simp [byteAt, List.getElem?_eq_getElem ha, List.getElem?_eq_getElem hb]

/-- The first difference of two runs of bytes of one length (R166). -/
theorem firstDifference_none {wanted got : List Byte} (h : got = wanted) : firstDifference wanted got = none := by
  simp [firstDifference, h]

theorem firstDifference_some {wanted got : List Byte} (hlen : got.length = wanted.length) {k : Nat}
    (hk : k < wanted.length) (hbefore : ∀ i < k, got[i]? = wanted[i]?) (hat : got[k]? ≠ wanted[k]?) :
    firstDifference wanted got = some k := by
  unfold firstDifference
  rw [List.find?_range_eq_some]
  refine ⟨(byteAt_bne hk (hlen ▸ hk)).2 (Ne.symm hat), List.mem_range.2 hk, fun i hi => ?_⟩
  have hsame : ¬ (byteAt wanted i != byteAt got i) = true := by
    rw [byteAt_bne (by omega) (by omega)]
    exact Classical.not_not.2 (hbefore i hi).symm
  simpa using hsame

/-- The outcome of a link-side READ in hand, once the slot is free. -/
theorem exec_readComplete_link {s : State} {addr n deadline : Nat} {flips : List Byte} {i : LinkItem}
    (h : s.port.inFlight = some ⟨.read addr n, .link, .transfer, deadline, false⟩) (hi : s.port.items = [i]) :
    exec (.readComplete flips) s =
      .next (runBlocks (itemOutcome i (.success (s.device.got addr n flips)) (s.freed s.device))) := by
  rw [exec_readComplete h, operationEnds_link rfl rfl _ (rest := []) hi]
  rfl

/-- An item that ends with the bytes of its READ. -/
theorem exec_readComplete_ends {s : State} {addr n deadline : Nat} {flips : List Byte} {i : LinkItem}
    (h : s.port.inFlight = some ⟨.read addr n, .link, .transfer, deadline, false⟩) (hi : s.port.items = [i])
    (hq : s.quiet) (hc : s.port.chosen = none) {kind tag : Byte} {code : ReplyCode} {fields : List Byte}
    (hends : itemOutcome i (.success (s.device.got addr n flips)) (s.freed s.device) =
      reply kind tag code fields (popItem (s.freed s.device))) :
    exec (.readComplete flips) s = .next { s with
      port := { s.port with state := .idle, inFlight := none, items := [], headBegun := false }
      link := s.link.withReply s.now kind tag (replyCodeByte code :: fields) } := by
  rw [exec_readComplete_link h hi, hends]
  exact congrArg Host.Outcome.next
    (runBlocks_itemEnds (u := s.freed s.device) hi kind tag code fields (freed_blocksWait hq _) hc)

theorem imageWriteOutcome_same {wanted got : List Byte} (h : got = wanted) (tag : Byte) (addr : Nat) (s : State) :
    imageWriteOutcome tag addr wanted true (.success got) s = reply kindImageWrite tag .ok [] (popItem s) := by
  simp only [imageWriteOutcome, firstDifference_none h]

theorem imageWriteOutcome_differs {wanted got : List Byte} {k : Nat} (h : firstDifference wanted got = some k)
    (tag : Byte) (addr : Nat) (s : State) :
    imageWriteOutcome tag addr wanted true (.success got) s =
      reply kindImageWrite tag .verifyFail (be8 k) (popItem s) := by
  simp only [imageWriteOutcome, h]

/-! ## The walk of a layer (R47, R38, R39, R50) -/

/-- The blocks wait while a lookup is in hand. -/
theorem blocksWait_lookup {s t : State} (hs : s.blocksWait) (hk : t.dict.lookup ≠ none)
    (he : t.engine.work = s.engine.work) (hj : t.journal = s.journal) (hr : t.ring = s.ring)
    (hd : t.job.translationDrained = s.job.translationDrained)
    (ha : t.job.abortPending = s.job.abortPending) : t.blocksWait := by
  have hsame : ({ t with dict := s.dict } : State).blocksWait := blocksWait_same hs he rfl hj hr hd ha
  obtain ⟨-, htake, hdrain, hjournal, habort⟩ := hsame
  rw [takeStep_none] at htake
  rw [drainStep_none] at hdrain
  rw [abortStep_none] at habort
  refine ⟨(evaluationStep_none t).2 (.inr hk), (takeStep_none t).2 htake, (drainStep_none t).2 hdrain, ?_,
    (abortStep_none t).2 habort⟩
  exact (journalStep_congr (s := { t with dict := s.dict }) (t := t) rfl rfl rfl).2 hjournal

/-- The last layer's walk has ended: the result reaches the evaluation, and the match cache unless it carries fault
(R62). -/
theorem layerDone_last {k : Lookup} (hlast : k.later = []) (r : LookupResult) {t : State} {run : EvalRun}
    (hrun : t.engine.run = some run) :
    layerDone k r t = { t with
      dict := { t.dict with lookup := none }
      engine := { t.engine with
        run := some { run with answers := run.answers ++ [(k.sequence, r)] }
        cache := if r.fault then t.engine.cache else t.engine.cache ++ [(k.sequence, r)] } } := by
  simp only [layerDone, hlast, consult, lookupNext, lookupArrived, State.mapDict, State.mapEngine, hrun,
    EvalContext.arrive, EvalContext.keep]
  cases r.fault <;> rfl

/-- A memory fault counted and raised (R162). -/
theorem countMemoryFault_eq (s : State) :
    countMemoryFault s = { s with
      port := { s.port with faultCount := min (s.port.faultCount + 1) 0xFFFFFFFF }
      link := (raise .memoryFault s).link } := by
  have hlink := raise_congr (c := .memoryFault) (s := s)
    (t := s.mapPort fun p => { p with faultCount := satIncr max32 p.faultCount }) rfl rfl rfl rfl rfl
  rw [← hlink]
  exact raise_link _ _

theorem walkRead_goesOn {k : Lookup} {bytes : List Byte} {stage : WalkStage} {t : State}
    (h : walkStep (t.dict.layer k.layer) k.sequence k.stage bytes = .goOn stage) :
    walkRead k bytes t =
      requestTranslation (({ k with stage := stage } : Lookup).readOp t.dict)
        { t with dict := { t.dict with lookup := some { k with stage := stage } } } := by
  simp only [walkRead, h]
  rfl

theorem walkRead_absent {k : Lookup} {bytes : List Byte} {t : State}
    (h : walkStep (t.dict.layer k.layer) k.sequence k.stage bytes = .absent) :
    walkRead k bytes t = layerDone k k.result t := by simp only [walkRead, h]

theorem walkRead_found {k : Lookup} {bytes : List Byte} {t : State} {flags : Byte} {text : List Byte}
    (h : walkStep (t.dict.layer k.layer) k.sequence k.stage bytes = .found flags text) :
    walkRead k bytes t = layerDone k (k.result.matched flags text) t := by simp only [walkRead, h]

theorem walkRead_fault {k : Lookup} {bytes : List Byte} {t : State}
    (h : walkStep (t.dict.layer k.layer) k.sequence k.stage bytes = .fault) :
    walkRead k bytes t =
      layerDone k { k.result with fault := true } { t with
        dict := t.dict.countLayerFault k.layer
        port := { t.port with faultCount := min (t.port.faultCount + 1) 0xFFFFFFFF }
        link := (raise .memoryFault t).link } := by
  have hlink := raise_congr (c := .memoryFault) (s := t) (t := t.mapDict fun d => d.countLayerFault k.layer)
    rfl rfl rfl rfl rfl
  simp only [walkRead, h, countMemoryFault_eq, hlink]
  rfl

/-- A matching record as the result takes it (R48, R49). -/
theorem matched_eq (r : LookupResult) (flags : Byte) (text : List Byte) :
    r.matched flags text = { r with
      decision :=
        if r.decision ≠ .undecided then r.decision
        else if flags &&& 0x04 ≠ 0 then .suppressed
        else if flags &&& 0x01 ≠ 0 then .text (flags &&& 0x78) text
        else .undecided
      continuation := r.continuation || flags &&& 0x02 != 0 } := by
  simp only [LookupResult.matched, hasFlag, bne_iff_ne]
  rfl

/-- Where a walk goes from a bucket slot or a next offset (R47). -/
theorem walkTo_absent (l : Layer) {offset : Nat} (h : offset = 0xFFFFFFFF) (examined : Nat) :
    walkTo l offset examined = .absent := if_pos h

theorem walkTo_fault {l : Layer} {offset examined : Nat} (hne : offset ≠ 0xFFFFFFFF)
    (h : l.offsetOk offset = false ∨ 32 ≤ examined) : walkTo l offset examined = .fault := by
  refine (if_neg hne).trans ?_
  cases hok : l.offsetOk offset
  · rfl
  · exact if_pos (h.resolve_left (by rw [hok]; decide))

theorem walkTo_goOn {l : Layer} {offset examined : Nat} (hne : offset ≠ 0xFFFFFFFF) (hok : l.offsetOk offset = true)
    (h : examined < 32) : walkTo l offset examined = .goOn (.fixedPart offset examined) := by
  refine (if_neg hne).trans ?_
  rw [hok]
  exact if_neg (Nat.not_le.2 h)

/-- A record's fixed part is sound, or corrupt (R39). -/
theorem walkStep_fixedPart (l : Layer) (codes : List Code) (offset examined : Nat) (bytes : List Byte) :
    walkStep l codes (.fixedPart offset examined) bytes =
      let next := beValue (bytes.take 4)
      let strokes := (bytes.getD 4 0).toNat
      let text := (bytes.getD 6 0).toNat
      if strokes < 1 ∨ 8 < strokes ∨ 48 < text ∨ l.imageLength < offset + 8 + 3 * strokes + text ∨
        (next ≠ 0xFFFFFFFF ∧ l.offsetOk next = false)
      then .fault else .goOn (.remainder offset examined bytes) := by
  simp only [walkStep, Bool.not_eq_true']
  rfl

/-- Settles O42. -/
theorem readsAnswerTheirRequests : Obligations.ReadsAnswerTheirRequests := by
  refine ⟨?_, ?_⟩
  · intro s addr n deadline flips hf hq hb hc got ended
    refine ⟨fun tag hi => exec_readComplete_ends hf hi hq hc rfl, fun tag bytes hi hlen => ⟨fun hsame => ?_, ?_⟩⟩
    · exact exec_readComplete_ends hf hi hq hc (imageWriteOutcome_same hsame tag addr _)
    · intro k hk hbefore hat
      have hfirst : firstDifference bytes got = some k :=
        firstDifference_some (by rw [hlen]; exact Device.got_length ..) (hlen ▸ hk) hbefore hat
      exact exec_readComplete_ends hf hi hq hc (imageWriteOutcome_differs hfirst tag addr _)
  · intro s addr n deadline flips k run hf hq hc hlookup hlast hrun got layer offsetOk reads ends freed fault toRecord
    have hexec : exec (.readComplete flips) s = .next (runBlocks (walkRead k got freed)) := by
      rw [exec_readComplete hf]
      have houtcome : translationOutcome (.success got) freed = walkRead k got freed := by
        have hk : freed.dict.lookup = some k := hlookup
        simp only [translationOutcome, hk]
      exact congrArg (fun x => Host.Outcome.next (runBlocks x)) houtcome
    have hreads {stage : WalkStage} {offset length : Nat}
        (h : walkStep layer k.sequence k.stage got = .goOn stage)
        (hop : ({ k with stage := stage } : Lookup).readOp s.dict = .read (layer.base * 4096 + offset) length) :
        reads stage offset length := by
      refine hexec.trans (congrArg Host.Outcome.next ?_)
      rw [walkRead_goesOn (t := freed) h]
      have hop : ({ k with stage := stage } : Lookup).readOp freed.dict = _ := hop
      rw [hop]
      refine runBlocks_requestTranslation _ ?_ ?_ rfl hc
      · exact blocksWait_lookup (quiet_blocksWait hq) (by simp) rfl rfl rfl rfl rfl
      · exact headWaits_congr (s := s) rfl rfl rfl (quiet_headWaits hq)
    have habsent (h : walkStep layer k.sequence k.stage got = .absent) : ends freed k.result := by
      refine hexec.trans (congrArg Host.Outcome.next (congrArg runBlocks ?_))
      rw [walkRead_absent (t := freed) h]
      exact layerDone_last hlast _ (t := freed) hrun
    have hfault (h : walkStep layer k.sequence k.stage got = .fault) : fault := by
      refine hexec.trans (congrArg Host.Outcome.next (congrArg runBlocks ?_))
      have hlink : (raise .memoryFault freed).link = (raise .memoryFault s).link := raise_congr rfl rfl rfl rfl rfl
      rw [walkRead_fault (t := freed) h, hlink]
      exact layerDone_last hlast _ (t := { freed with
        dict := s.dict.countLayerFault k.layer
        port := { freed.port with faultCount := min (s.port.faultCount + 1) 0xFFFFFFFF }
        link := (raise .memoryFault s).link }) hrun
    have hfound {flags : Byte} {text : List Byte} (h : walkStep layer k.sequence k.stage got = .found flags text) :
        ends freed (k.result.matched flags text) := by
      refine hexec.trans (congrArg Host.Outcome.next (congrArg runBlocks ?_))
      rw [walkRead_found (t := freed) h]
      exact layerDone_last hlast _ (t := freed) hrun
    have hto {offset examined : Nat} (h : walkStep layer k.sequence k.stage got = walkTo layer offset examined) :
        toRecord offset examined :=
      ⟨fun hnone => habsent (h.trans (walkTo_absent layer hnone examined)),
        fun hne hbad => hfault (h.trans (walkTo_fault hne hbad)),
        fun hne hok hlt => hreads (h.trans (walkTo_goOn hne hok hlt)) rfl⟩
    refine ⟨fun hstage => hto (by rw [hstage]; rfl), fun offset examined hstage => ?_,
      fun offset examined fixed hstage => ?_⟩
    · intro next strokes text corrupt
      refine ⟨fun hbad => hfault ?_, fun hgood => hreads (stage := .remainder offset examined got) ?_ rfl⟩
      · rw [hstage]
        exact (walkStep_fixedPart ..).trans (if_pos hbad)
      · rw [hstage]
        exact (walkStep_fixedPart ..).trans (if_neg hgood)
    · intro strokes text flags length checks same delivered
      refine ⟨fun hbad => hfault ?_, fun hok hsame => ?_, fun hok hother => hto ?_⟩
      · rw [hstage]
        exact if_pos hbad
      · have hrecord : walkStep layer k.sequence k.stage got = .found flags delivered := by
          rw [hstage]
          exact (if_neg (Classical.not_not.2 hok)).trans (if_pos hsame)
        rw [← matched_eq]
        exact hfound hrecord
      · rw [hstage]
        exact (if_neg (Classical.not_not.2 hok)).trans (if_neg hother)

/-! ## Timeouts at the requester (R162) -/

/-- The part once an operation has timed out: the slot is free, and the fault is counted and raised. -/
def State.timedOut (s : State) : State :=
  { s with
    port := { s.port with
      state := .idle, inFlight := none, faultCount := min (s.port.faultCount + 1) 0xFFFFFFFF }
    link := (raise .memoryFault s).link }

theorem freeSlot_timedOut (s : State) : freeSlot (countMemoryFault s) = s.timedOut := by
  rw [countMemoryFault_eq]
  rfl

theorem operationTimesOut_dropped {f : InFlight} (h : f.dropped = true) (s : State) :
    operationTimesOut f s = s.timedOut :=
  (operationEnds_dropped h ..).trans (freeSlot_timedOut s)

theorem operationTimesOut_link {f : InFlight} (h : f.dropped = false) (hr : f.requester = .link) {s : State}
    {i : LinkItem} (hi : s.port.items = [i]) : operationTimesOut f s = itemOutcome i .timeout s.timedOut := by
  have hitems : (countMemoryFault s).port.items = [i] := by rw [countMemoryFault_eq]; exact hi
  rw [operationTimesOut, operationEnds_link h hr _ hitems, freeSlot_timedOut]

theorem operationTimesOut_journal {f : InFlight} (h : f.dropped = false) (hr : f.requester = .journal) (s : State) :
    operationTimesOut f s = journalOutcome .timeout s.timedOut := by
  rw [operationTimesOut, operationEnds_journal h hr, freeSlot_timedOut]

/-- READY_TIMEOUT at its deadline (R162). -/
theorem exec_readyTimeout {s : State} {f : InFlight} (h : s.port.inFlight = some f) (hphase : f.phase = .readyWait)
    (hover : f.deadline ≤ s.now) : exec .readyTimeout s = .next (runBlocks (operationTimesOut f s)) := by
  have hexec : exec .readyTimeout s = execReadyTimeout s := rfl
  rw [hexec]
  simp only [execReadyTimeout, h]
  exact if_pos ⟨hphase, hover⟩

/-! ## LAYER_SET (R40, R41) -/

theorem layerOf_isNone (n : Nat) : (layerOf n).isNone = true ↔ n < 1 ∨ 3 < n := by
  rcases n with _ | _ | _ | _ | n <;> simp [layerOf]

theorem boolOf_isNone (b : Byte) : (boolOf b).isNone = true ↔ 1 < b.toNat := by
  simp only [boolOf]
  split
  · rename_i h; simp [h]
  · split
    · rename_i h; simp [h]
    · rename_i h0 h1
      simp only [Option.isNone_none, true_iff]
      bv_omega

theorem boolOf_eq_true (b : Byte) : boolOf b = some true ↔ b = 1 := by
  simp only [boolOf]
  split
  · rename_i h; simp [h]
  · simp

theorem layerRegionOk_false (base count : Nat) :
    (!layerRegionOk base count) = true ↔ 0 < count ∧ 4096 < base + count := by
  simp [layerRegionOk, Nat.pos_iff_ne_zero]

theorem layerRegionFree_false (p : Params) (base count : Nat) :
    (!layerRegionFree p base count) = true ↔ 0 < count ∧ (base = 0 ∨ (base < p.journalBase + p.journalCount ∧
      p.journalBase < base + count ∧ 0 < p.journalCount)) := by
  simp [layerRegionFree, inRegion, regionsMeet]
  omega

/-- The checks of R40 on the fields of a LAYER_SET, line by line. -/
theorem layerSetRefusal_eq (p : Params) (number base count : Nat) (enable : Byte) :
    layerSetRefusal p number base count (boolOf enable) =
      if (number < 1 ∨ 3 < number) ∨ 1 < enable.toNat ∨ (count = 0 ∧ enable = 1) ∨ (0 < count ∧ 4096 < base + count)
      then some .badValue
      else if 0 < count ∧ (base = 0 ∨ (base < p.journalBase + p.journalCount ∧
        p.journalBase < base + count ∧ 0 < p.journalCount)) then some .protected_
      else none := by
  simp only [layerSetRefusal, layerOf_isNone, boolOf_isNone, boolOf_eq_true, layerRegionOk_false,
    layerRegionFree_false]
  by_cases hnumber : number < 1 ∨ 3 < number
  · rw [if_pos hnumber, if_pos (.inl hnumber)]
  by_cases henable : 1 < enable.toNat
  · rw [if_neg hnumber, if_pos henable, if_pos (.inr (.inl henable))]
  by_cases hempty : count = 0 ∧ enable = 1
  · rw [if_neg hnumber, if_neg henable, if_pos hempty, if_pos (.inr (.inr (.inl hempty)))]
  by_cases hlarge : 0 < count ∧ 4096 < base + count
  · rw [if_neg hnumber, if_neg henable, if_neg hempty, if_pos hlarge, if_pos (.inr (.inr (.inr hlarge)))]
  · rw [if_neg hnumber, if_neg henable, if_neg hempty, if_neg hlarge,
      if_neg (show ¬ ((number < 1 ∨ 3 < number) ∨ 1 < enable.toNat ∨ (count = 0 ∧ enable = 1) ∨
        (0 < count ∧ 4096 < base + count)) from
        not_or.2 ⟨hnumber, not_or.2 ⟨henable, not_or.2 ⟨hempty, hlarge⟩⟩⟩)]

theorem layerSetFields (number b1 b0 c1 c0 enable : Byte) :
    fieldAt [number, b1, b0, c1, c0, enable] 1 2 = b1.toNat * 256 + b0.toNat ∧
      fieldAt [number, b1, b0, c1, c0, enable] 3 2 = c1.toNat * 256 + c0.toNat := ⟨beValue_two b1 b0, beValue_two c1 c0⟩

/-- A LAYER_SET that the checks on the job let pass (R40): refused by its fields, or an item of the queue. -/
theorem askLayerSet_refused {s : State} (hopen : s.job.openPending = none) (hjob : s.job.state = .noJob) (tag : Byte)
    {number b1 b0 c1 c0 enable : Byte} {code : ReplyCode}
    (h : layerSetRefusal s.params number.toNat (b1.toNat * 256 + b0.toNat) (c1.toNat * 256 + c0.toNat)
      (boolOf enable) = some code) :
    askLayerSet ⟨kindLayerSet, tag⟩ [number, b1, b0, c1, c0, enable] s = answer ⟨kindLayerSet, tag⟩ code [] s := by
  obtain ⟨hbase, hcount⟩ := layerSetFields number b1 b0 c1 c0 enable
  have hrefusal : layerSetRefusal s.params (byteAt [number, b1, b0, c1, c0, enable] 0).toNat
      (b1.toNat * 256 + b0.toNat) (c1.toNat * 256 + c0.toNat)
      (boolOf (byteAt [number, b1, b0, c1, c0, enable] 5)) = some code := h
  simp only [askLayerSet, hopen, Job.running, hjob, hbase, hcount, hrefusal]
  rfl

theorem askLayerSet_passed {s : State} (hopen : s.job.openPending = none) (hjob : s.job.state = .noJob) (tag : Byte)
    {number b1 b0 c1 c0 enable : Byte} {i : LayerId} {e : Bool} (hi : layerOf number.toNat = some i)
    (he : boolOf enable = some e)
    (h : layerSetRefusal s.params number.toNat (b1.toNat * 256 + b0.toNat) (c1.toNat * 256 + c0.toNat)
      (boolOf enable) = none) :
    askLayerSet ⟨kindLayerSet, tag⟩ [number, b1, b0, c1, c0, enable] s =
      runBlocks (pushItem (.layerSet tag i (b1.toNat * 256 + b0.toNat) (c1.toNat * 256 + c0.toNat) e) s) := by
  obtain ⟨hbase, hcount⟩ := layerSetFields number b1 b0 c1 c0 enable
  have hrefusal : layerSetRefusal s.params (byteAt [number, b1, b0, c1, c0, enable] 0).toNat
      (b1.toNat * 256 + b0.toNat) (c1.toNat * 256 + c0.toNat)
      (boolOf (byteAt [number, b1, b0, c1, c0, enable] 5)) = none := h
  have hlayer : layerOf (byteAt [number, b1, b0, c1, c0, enable] 0).toNat = some i := hi
  have henable : boolOf (byteAt [number, b1, b0, c1, c0, enable] 5) = some e := he
  rw [henable] at hrefusal
  simp only [askLayerSet, hopen, Job.running, hjob, hbase, hcount, hrefusal, hlayer, henable]
  rfl

/-- A LAYER_SET that disables is completed as it reaches the head, and the port stays free (R40). -/
theorem runBlocks_layerDisable {s : State} (hq : s.quiet) (hf : s.portFree) (tag : Byte) (i : LayerId)
    (base count : Nat) :
    runBlocks (pushItem (.layerSet tag i base count false) (s.mapLink Link.withTaken)) =
      { s with
        dict := s.dict.setLayer i (.disabled base count), link := s.answered kindLayerSet tag [0x00] } := by
  obtain ⟨hs, hin, hitems, hbegun, hrest⟩ := hf
  let u : State := { s with
    dict := s.dict.setLayer i (.disabled base count), link := s.answered kindLayerSet tag [0x00] }
  have hport : s.port = { s.port with items := [], headBegun := false } := by rw [← hitems, ← hbegun]
  have hlookup : (s.dict.setLayer i (.disabled base count)).lookup = s.dict.lookup := by cases i <;> rfl
  have hbegin : beginItem (.layerSet tag i base count false)
      ((pushItem (.layerSet tag i base count false) (s.mapLink Link.withTaken)).mapPort fun p =>
        { p with headBegun := true }) = u := by
    change reply _ _ _ _ _ = u
    rw [reply_eq]
    simp only [u, popItem, pushItem, State.mapPort, State.mapLink, State.mapDict, hitems]
    rw [hport]
    rfl
  have hstep := internalStep_head (s := pushItem (.layerSet tag i base count false) (s.mapLink Link.withTaken))
    (i := .layerSet tag i base count false) (rest := [])
    (blocksWait_same (quiet_blocksWait hq) rfl rfl rfl rfl rfl rfl) hbegun
    (by simp [pushItem, State.mapPort, State.mapLink, hitems]) (.inl rfl)
  have hquiet : u.quiet := (quiet_congr (s := s) (t := u) rfl hlookup rfl rfl rfl rfl rfl).2 hq
  have hbound : cascadeBound = 4095 + 1 := rfl
  rw [runBlocks, hbound, cascade_step _ hstep, hbegin, cascade_quiet hquiet]

/-- The layer that an enabling LAYER_SET leaves where its header is not accepted (R41). -/
def Layer.enabledInvalid (base count : Nat) : Layer :=
  { base := base, count := count, enable := true, valid := false, checkPending := false, bucketBits := 8
    entryCount := 0, imageLength := 0, faultCount := 0 }

theorem setFrom_accepted {l : Layer} {base count : Nat} {bytes : List Byte} {h : ImageHeader}
    (hh : readHeader bytes count = some h) :
    l.setFrom base count (some bytes) = { Layer.enabledInvalid base count with
      valid := true, bucketBits := h.bucketBits, entryCount := h.entryCount, imageLength := h.imageLength } := by
  simp only [Layer.setFrom, Layer.afterHeader, hh]
  rfl

theorem setFrom_refused {l : Layer} {base count : Nat} {bytes : List Byte} (hh : readHeader bytes count = none) :
    l.setFrom base count (some bytes) = Layer.enabledInvalid base count := by
  simp only [Layer.setFrom, Layer.afterHeader, hh]
  rfl

theorem setFrom_timeout (l : Layer) (base count : Nat) :
    l.setFrom base count none = { Layer.enabledInvalid base count with checkPending := true } := rfl

/-- The header read of an enabling LAYER_SET ends, by the layer it leaves (R41). -/
theorem layerSetOutcome_success (tag : Byte) (i : LayerId) (base count : Nat) (bytes : List Byte) (s : State) :
    layerSetOutcome tag i base count (.success bytes) s =
      let l := (s.dict.layer i).setFrom base count (some bytes)
      let u := s.mapDict fun d => d.setLayer i l
      if l.valid then reply kindLayerSet tag .ok (layerFields l) (popItem u)
      else reply kindLayerSet tag .badImage [] (popItem u) := rfl

/-- A LAYER_SET's item ends: the layer is as set, and the reply is queued. -/
theorem runBlocks_layerSetEnds {u : State} {i : LinkItem} (hi : u.port.items = [i]) (hw : u.blocksWait)
    (hc : u.port.chosen = none) (n : LayerId) (l : Layer) (tag : Byte) (code : ReplyCode) (fields : List Byte) :
    runBlocks (reply kindLayerSet tag code fields (popItem (u.mapDict fun d => d.setLayer n l))) =
      { u with
        port := { u.port with items := [], headBegun := false }
        dict := u.dict.setLayer n l
        link := u.link.withReply u.now kindLayerSet tag (replyCodeByte code :: fields) } := by
  have hlookup : (u.dict.setLayer n l).lookup = u.dict.lookup := by cases n <;> rfl
  exact runBlocks_itemEnds (u := u.mapDict fun d => d.setLayer n l) hi _ _ _ _
    (blocksWait_same hw rfl hlookup rfl rfl rfl rfl) hc

/-- Settles O23. -/
theorem layerSetChecksAndApplies : Obligations.LayerSetChecksAndApplies := by
  refine ⟨?_, ?_⟩
  · intro tag number b1 b0 c1 c0 enable s hs base count c badValue touches
    have hexec : exec c s =
        .next (askLayerSet ⟨kindLayerSet, tag⟩ [number, b1, b0, c1, c0, enable] (s.mapLink Link.withTaken)) :=
      exec_serves hs rfl rfl
    have hrefused (code : ReplyCode) :
        answer ⟨kindLayerSet, tag⟩ code [] (s.mapLink Link.withTaken) =
          s.answering kindLayerSet tag [replyCodeByte code] := answer_taken_answering ..
    rw [hexec]
    refine ⟨fun hopen => ?_, fun hopen hrunning => ?_, fun hopen hjob => ?_⟩
    · have hbusy : s.job.openPending.isSome = true := Option.isSome_iff_ne_none.2 hopen
      exact congrArg Host.Outcome.next ((if_pos hbusy).trans (hrefused .busy))
    · have hidle : ¬ s.job.openPending.isSome = true := by simp [hopen]
      have hstate : s.job.running = true := running_iff.2 hrunning
      exact congrArg Host.Outcome.next ((if_neg hidle).trans ((if_pos hstate).trans (hrefused .state)))
    · have hrefusal := layerSetRefusal_eq s.params number.toNat base count enable
      have hrefuse {code : ReplyCode}
          (h : layerSetRefusal s.params number.toNat base count (boolOf enable) = some code) :
          Host.Outcome.next (askLayerSet ⟨kindLayerSet, tag⟩ [number, b1, b0, c1, c0, enable]
            (s.mapLink Link.withTaken)) = (.next (s.answering kindLayerSet tag [replyCodeByte code]) : Result) :=
        congrArg Host.Outcome.next
          ((askLayerSet_refused (s := s.mapLink Link.withTaken) hopen hjob tag h).trans (hrefused code))
      refine ⟨fun hbad => hrefuse (code := .badValue) (hrefusal.trans (if_pos (or_assoc.2 hbad))),
        fun hgood htouches => hrefuse (code := .protected_)
          (hrefusal.trans ((if_neg fun h => hgood (or_assoc.1 h)).trans (if_pos htouches))), ?_⟩
      intro hgood hfree hq hport i hi
      have hnone : layerSetRefusal s.params number.toNat base count (boolOf enable) = none :=
        hrefusal.trans ((if_neg fun h => hgood (or_assoc.1 h)).trans (if_neg hfree))
      refine ⟨fun hoff => congrArg Host.Outcome.next ?_, fun hon => congrArg Host.Outcome.next ?_⟩
      · rw [askLayerSet_passed (s := s.mapLink Link.withTaken) hopen hjob tag hi (e := false) (by rw [hoff]; rfl) hnone,
          runBlocks_layerDisable hq hport]
        rfl
      · rw [askLayerSet_passed (s := s.mapLink Link.withTaken) hopen hjob tag hi (e := true) (by rw [hon]; rfl) hnone]
        exact runBlocks_request_granted hq hport (.inl rfl) rfl rfl
  · intro tag i base count addr deadline phase flips s hf hi hb hc hq got bits entries length accepted port invalid
    have hgoes (hphase : phase = .transfer) : exec (.readComplete flips) s = .next (runBlocks
        (layerSetOutcome tag i base count (.success got) (s.freed s.device))) := by
      subst hphase
      exact exec_readComplete_link hf hi
    clear_value got
    refine ⟨fun hphase => ?_, fun hphase hover => ?_⟩
    · rw [hgoes hphase, layerSetOutcome_success]
      have hends := runBlocks_layerSetEnds (u := s.freed s.device) hi (freed_blocksWait hq _) hc i
      refine ⟨fun haccepted => ?_, fun hrefused => ?_⟩
      · have hheader : readHeader got count = some ⟨bits, entries, length⟩ := by
          unfold readHeader
          exact if_pos haccepted
        rw [setFrom_accepted hheader]
        exact congrArg Host.Outcome.next (hends _ tag .ok _)
      · have hheader : readHeader got count = none := by
          unfold readHeader
          exact if_neg hrefused
        rw [setFrom_refused hheader]
        exact congrArg Host.Outcome.next (hends _ tag .badImage _)
    · subst hphase
      rw [exec_readyTimeout hf rfl hover, operationTimesOut_link rfl rfl hi]
      exact congrArg Host.Outcome.next (runBlocks_layerSetEnds (u := s.timedOut) hi
        (blocksWait_same (quiet_blocksWait hq) rfl rfl rfl rfl rfl rfl) hc i _ tag .memoryFault [])

end Sys2Proof.Machine
end

section
/-! PROOFS. The feed unit's commands: PACING_EXPIRY (R126), FRAME_COMPLETION (R127 to R130), PROFILE_SET (R117),
PORT_SET (R118) and the presence samples (R119, R120). -/

namespace Sys2Proof.Machine

/-! ## PACING_EXPIRY (R126) -/

/-- Settles O32. -/
theorem pacingGathersCredit : Obligations.PacingGathersCredit := by
  intro s ha hb hc
  refine congrArg Host.Outcome.next ?_
  exact chooseAll_onHold (onHold_mapPorts _ (f := s.feeds) ⟨ha, hb, hc⟩)

/-! ## A port's record -/

theorem setPort_port (f : Feeds) (i : PortId) (p : Port) : (f.setPort i p).port i = p := by cases i <;> rfl

theorem setPort_port_ne (f : Feeds) {i j : PortId} (h : i ≠ j) (p : Port) : (f.setPort j p).port i = f.port i := by
  cases i <;> cases j <;> simp_all [Feeds.port, Feeds.setPort]

theorem setPort_setPort (f : Feeds) (i : PortId) (p q : Port) : (f.setPort i p).setPort i q = f.setPort i q := by
  cases i <;> rfl

theorem setPort_profile (f : Feeds) (i : PortId) (p : Port) (j : ProfileId) : (f.setPort i p).profile j = f.profile j := by
  cases i <;> cases j <;> rfl

/-- A port that is not in use makes no choice (R127). -/
theorem mayChoose_inactive {s : State} {i : PortId} (h : (s.feeds.port i).active = false) : mayChoose s i = false := by
  simp [mayChoose, h]

theorem chooseOne_none {s : State} {i : PortId} (h : mayChoose s i = false) : chooseOne i s = s := by
  cases i
  case p0 => exact choosePortZero_stop (by simp [portZeroSends, h])
  all_goals exact choose_none (.inl h)

/-- A viewer port's record with a frame taken, and on its line (R128, R130). -/
def Port.sends (p : Port) (f : FeedFrame) : Port := { p.take f with frame := some ⟨f.lineBytes, p.speed⟩ }

theorem takeFrame_viewer {i : PortId} (h : i ≠ .p0) (f : FeedFrame) (s : State) :
    takeFrame i f s = { s with feeds := s.feeds.setPort i ((s.feeds.port i).sends f) } := by
  have hspeed : ((s.feeds.port i).take f).speed = (s.feeds.port i).speed := by cases f <;> rfl
  rw [Port.sends, ← hspeed]
  cases i
  case p0 => exact absurd rfl h
  all_goals rfl

/-! ## FRAME_COMPLETION (R127 to R130) -/

/-- The part with a port's frame in flight ended (R130). -/
def State.frameEnded (s : State) (i : PortId) : State :=
  { s with feeds := s.feeds.setPort i { s.feeds.port i with frame := none } }

theorem frameEnded_port (s : State) (i : PortId) :
    (s.frameEnded i).feeds.port i = { s.feeds.port i with frame := none } := setPort_port ..

theorem frameEnded_profileOf (s : State) (i : PortId) :
    (s.frameEnded i).feeds.profileOf i = s.feeds.profile (s.feeds.port i).profile := by
  rw [Feeds.profileOf, frameEnded_port]
  exact setPort_profile ..

/-- Whether a viewer port may choose once its frame has ended (R127). -/
theorem mayChoose_frameEnded (s : State) {i : PortId} (h : i ≠ .p0) :
    mayChoose (s.frameEnded i) i = ((s.feeds.port i).active &&
      !(s.feeds.profile (s.feeds.port i).profile).hold && decide (100 ≤ (s.feeds.port i).credit)) := by
  have hviewer : (i != .p0) = true := by simpa using h
  simp only [mayChoose, frameEnded_port, frameEnded_profileOf, hviewer, Option.isNone_none, Bool.true_or,
    Bool.and_true, Port.active]

theorem exec_frameCompletion {s : State} {i : PortId} (hi : i ≠ .p0) (h : (s.feeds.port i).frame ≠ none) :
    exec (.frameCompletion i) s = .next (choose i (s.frameEnded i)) := by
  refine (if_pos (Option.isSome_iff_ne_none.2 h)).trans (congrArg Host.Outcome.next ?_)
  cases i
  case p0 => exact absurd rfl hi
  all_goals rfl

/-- Settles O33. -/
theorem frameCompletionChoosesTheNextFrame : Obligations.FrameCompletionChoosesTheNextFrame := by
  refine ⟨?_, fun p => ⟨fun h => ?_, fun f h => ?_⟩⟩
  · intro i s hi p profile target known delta n bytes clearAt ends
    have hport := frameEnded_port s i
    have hprofile := frameEnded_profileOf s i
    have hstops (hframe : p.frame ≠ none)
        (h : mayChoose (s.frameEnded i) i = false ∨ frameFor (s.frameEnded i) i = none) :
        ends { p with frame := none } := by
      refine (exec_frameCompletion hi hframe).trans (congrArg Host.Outcome.next ?_)
      rw [choose_none h]
      rfl
    have hmay : mayChoose (s.frameEnded i) i = (p.active && !profile.hold && decide (100 ≤ p.credit)) :=
      mayChoose_frameEnded s hi
    have hsends {f : FeedFrame} (hframe : p.frame ≠ none) (hold : profile.hold = false) (hcredit : 100 ≤ p.credit)
        (hactive : p.active = true) (hf : frameFor (s.frameEnded i) i = some f) :
        ends (p.sends f) := by
      refine (exec_frameCompletion hi hframe).trans (congrArg Host.Outcome.next ?_)
      rw [choose_some (by rw [hmay, hactive, hold, decide_eq_true hcredit]; rfl) hf, takeFrame_viewer hi, hport]
      have htake : ({ p with frame := none } : Port).sends f = p.sends f := by cases f <;> rfl
      refine Eq.trans ?_ (congrArg (fun q => ({ s with feeds := s.feeds.setPort i q } : State)) htake)
      simp only [State.frameEnded, setPort_setPort]
      rfl
    have htarget : Machine.target (s.frameEnded i) i = target := by
      rw [target_eq, hprofile]
      rfl
    refine ⟨fun hnone => ?_, fun hframe hno => ?_, fun hframe hold hcredit hstate => ?_,
      fun hframe hold hcredit hstate => ?_⟩
    · exact if_neg (by simp [hnone, p])
    · refine hstops hframe (.inl ?_)
      rw [hmay]
      rcases hno with hold | hcredit | hstate
      · rw [hold, Bool.not_true, Bool.and_false, Bool.false_and]
      · rw [decide_eq_false (Nat.not_le.2 hcredit), Bool.and_false]
      · rw [show p.active = false by simpa [Port.active] using hstate, Bool.false_and, Bool.false_and]
    · have hactive : p.active = true := by simp [Port.active, hstate]
      have hf : frameFor (s.frameEnded i) i = some (.clear clearAt) := by
        rw [frameFor_refreshing (by rw [hport]; exact hstate), refreshPoint, hprofile]
        rfl
      exact hsends hframe hold hcredit hactive hf
    · have hactive : p.active = true := by simp [Port.active, hstate]
      have hfollows : ((s.frameEnded i).feeds.port i).state ≠ .refreshing := by
        rw [hport]
        exact fun h => absurd (hstate.symm.trans h) (by decide)
      refine ⟨fun hvalid => ?_, fun hvalid => ⟨fun hless => ?_, fun hshown hlive hsettle => ?_, fun hshown hnone => ?_⟩⟩
      · have hf := frameFor_retract hfollows (by rw [hport]; exact hvalid)
        rw [hport] at hf
        exact hsends hframe hold hcredit hactive hf
      · have hf := frameFor_append hfollows (by rw [hport]; exact hvalid) (by rw [hport, htarget]; exact hless)
        rw [hport, htarget] at hf
        exact hsends hframe hold hcredit hactive hf
      · have hf := frameFor_shown hfollows (by rw [hport]; exact hvalid) (by rw [hport, htarget]; exact hshown)
        rw [hport, hprofile] at hf
        exact hsends hframe hold hcredit hactive (hf.trans (if_pos ⟨hlive, hsettle⟩))
      · have hf := frameFor_shown hfollows (by rw [hport]; exact hvalid) (by rw [hport, htarget]; exact hshown)
        rw [hport, hprofile] at hf
        refine hstops hframe (.inr (hf.trans (if_neg fun ⟨hlive, hsettle⟩ => ?_)))
        rcases hnone with hsettled | hknown
        · exact absurd (hsettled.symm.trans hlive) (by decide)
        · exact absurd hsettle (Nat.not_lt.2 hknown)
  · simp [Port.lineBits, h, stopLevel]
  · simp only [Port.lineBits, h]
    rfl

/-! ## PROFILE_SET (R117) -/

theorem profileOf_isNone (b : Byte) : profileOf b = none ↔ 2 < b.toNat := by
  simp only [profileOf]
  by_cases h0 : b = 0
  · simp [h0]
  by_cases h1 : b = 1
  · simp [h1]
  by_cases h2 : b = 2
  · simp [h2]
  · simp only [h0, h1, h2, if_false, true_iff]
    bv_omega

theorem modeOf_isNone (b : Byte) : modeOf b = none ↔ 1 < b.toNat := by
  simp only [modeOf]
  by_cases h0 : b = 0
  · simp [h0]
  by_cases h1 : b = 1
  · simp [h1]
  · simp only [h0, h1, if_false, true_iff]
    bv_omega

theorem modeOf_some {b : Byte} (h : b.toNat ≤ 1) : modeOf b = some (if b = 0 then .live else .settled) := by
  unfold modeOf
  by_cases h0 : b = 0
  · rw [if_pos h0, if_pos h0]
  · rw [if_neg h0, if_neg h0, if_pos (by bv_omega)]

theorem boolOf_eq_none (b : Byte) : boolOf b = none ↔ 1 < b.toNat := by
  rw [← boolOf_isNone, Option.isNone_iff_eq_none]

/-- The ports mapped to a profile on hold make no choice (R127). -/
theorem foldl_chooseOne_held {l : List PortId} {s : State} (h : ∀ k ∈ l, (s.feeds.profileOf k).hold = true) :
    l.foldl (fun s k => chooseOne k s) s = s := by
  induction l with
  | nil => rfl
  | cons k l ih =>
    rw [List.foldl_cons, chooseOne_held (h k (List.mem_cons_self ..))]
    exact ih fun j hj => h j (List.mem_cons_of_mem _ hj)

theorem setProfile_profile (f : Feeds) (i : ProfileId) (p : Profile) : (f.setProfile i p).profile i = p := by
  cases i <;> rfl

theorem setProfile_port (f : Feeds) (i : ProfileId) (p : Profile) (k : PortId) :
    (f.setProfile i p).port k = f.port k := by cases i <;> cases k <;> rfl

theorem active_iff (p : Port) : p.active = true ↔ p.state = .refreshing ∨ p.state = .following := by
  simp [Port.active]

/-- A mapped port after its profile has changed, field by field (R117, R120). -/
theorem profileChanged_eq (old new : Profile) (start : Nat) (p : Port) :
    p.profileChanged old new start =
      let q : Port := { p with credit := min p.credit (new.burst * 100) }
      if (p.state = .refreshing ∨ p.state = .following) ∧
          (old.mode ≠ new.mode ∨ old.refreshDepth ≠ new.refreshDepth) then
        { q with state := .refreshing, base := start, displayed := start, valid := start, settledSent := start }
      else q := by
  simp only [Port.profileChanged, active_iff, Port.enter]
  rfl

/-- The ports that follow a profile's new fields (R117). -/
def Feeds.withProfile (f : Feeds) (i : ProfileId) (new : Profile) (start : Nat) : Feeds :=
  (f.setProfile i new).mapPorts fun _ p => if p.profile = i then p.profileChanged (f.profile i) new start else p

/-- A profile put on hold takes its new fields, and no port chooses (R117, R127). -/
theorem applyProfile_held (i : ProfileId) {new : Profile} (hnew : new.hold = true) (s : State) :
    applyProfile i new s = { s with feeds := s.feeds.withProfile i new (retainStart s) } := by
  refine foldl_chooseOne_held (s := { s with feeds := s.feeds.withProfile i new (retainStart s) }) fun k hk => ?_
  have hmapped : (({ s with feeds := s.feeds.withProfile i new (retainStart s) } : State).feeds.port k).profile = i := by
    exact of_decide_eq_true (List.mem_filter.1 hk).2
  have hheld : ((s.feeds.withProfile i new (retainStart s)).profile i) = new := by
    refine Eq.trans ?_ (setProfile_profile s.feeds i new)
    cases i <;> rfl
  rw [Feeds.profileOf, hmapped]
  exact (congrArg Profile.hold hheld).trans hnew

theorem askProfileSet_refused (r : Request) {payload : List Byte} (s : State)
    (h : profileOf (byteAt payload 0) = none ∨ modeOf (byteAt payload 1) = none ∨ boolOf (byteAt payload 5) = none) :
    askProfileSet r payload s = answer r .badValue [] s := by
  unfold askProfileSet
  split
  · rename_i hprofile hmode hhold
    rcases h with h | h | h
    · exact absurd (h.symm.trans hprofile) (by simp)
    · exact absurd (h.symm.trans hmode) (by simp)
    · exact absurd (h.symm.trans hhold) (by simp)
  · rfl

/-- Settles O34. -/
theorem profileSetClampsAndRefreshes : Obligations.ProfileSetClampsAndRefreshes := by
  intro tag number mode r1 r0 burst hold d1 d0 s hs c
  have hexec : exec c s = .next (askProfileSet ⟨kindProfileSet, tag⟩ [number, mode, r1, r0, burst, hold, d1, d0]
      (s.mapLink Link.withTaken)) := exec_serves hs rfl rfl
  rw [hexec]
  refine ⟨fun hbad => ?_, fun hmode hhold i hi => ?_⟩
  · rw [← profileOf_isNone, ← modeOf_isNone, ← boolOf_eq_none] at hbad
    have hrefused := askProfileSet_refused ⟨kindProfileSet, tag⟩
      (payload := [number, mode, r1, r0, burst, hold, d1, d0]) (s.mapLink Link.withTaken) hbad
    rw [hrefused, answer_taken_answering]
    rfl
  · intro old start new
    have hfields : askProfileSet ⟨kindProfileSet, tag⟩ [number, mode, r1, r0, burst, hold, d1, d0]
        (s.mapLink Link.withTaken) =
        answer ⟨kindProfileSet, tag⟩ .ok (be16 new.rate ++ be8 new.burst ++ be16 new.refreshDepth)
          (applyProfile i new (s.mapLink Link.withTaken)) := by
      have hnew : clampedProfile (if mode = 0 then .live else .settled) true
          (fieldAt [number, mode, r1, r0, burst, hold, d1, d0] 2 2)
          (fieldAt [number, mode, r1, r0, burst, hold, d1, d0] 4 1)
          (fieldAt [number, mode, r1, r0, burst, hold, d1, d0] 6 2) = new := by
        have hrate : fieldAt [number, mode, r1, r0, burst, hold, d1, d0] 2 2 = r1.toNat * 256 + r0.toNat :=
          beValue_two r1 r0
        have hburst : fieldAt [number, mode, r1, r0, burst, hold, d1, d0] 4 1 = burst.toNat := beValue_one burst
        have hdepth : fieldAt [number, mode, r1, r0, burst, hold, d1, d0] 6 2 = d1.toNat * 256 + d0.toNat :=
          beValue_two d1 d0
        simp only [clampedProfile, clamp, hrate, hburst, hdepth, Nat.max_zero, new]
      have hprofile : profileOf (byteAt [number, mode, r1, r0, burst, hold, d1, d0] 0) = some i := hi
      have hmode' : modeOf (byteAt [number, mode, r1, r0, burst, hold, d1, d0] 1) =
          some (if mode = 0 then .live else .settled) := modeOf_some hmode
      have hhold' : boolOf (byteAt [number, mode, r1, r0, burst, hold, d1, d0] 5) = some true :=
        (boolOf_eq_true hold).2 hhold
      simp only [askProfileSet, hprofile, hmode', hhold', hnew]
    rw [hfields, applyProfile_held i (new := new) rfl, answer_eq]
    refine congrArg Host.Outcome.next ?_
    simp only [Feeds.withProfile, profileChanged_eq]
    rfl

/-! ## PORT_SET (R118) -/

theorem portOf_eq_none (n : Nat) : portOf n = none ↔ 4 < n := by
  rcases n with _ | _ | _ | _ | _ | n <;> simp [portOf]

theorem portOf_zero {n : Nat} {i : PortId} (h : portOf n = some i) : i = .p0 ↔ n = 0 := by
  rcases n with _ | _ | _ | _ | _ | n <;> simp_all [portOf] <;> cases h <;> decide

theorem speedOf_eq_none (b : Byte) : speedOf b = none ↔ 4 < b.toNat := by
  simp only [speedOf]
  by_cases h0 : b = 0
  · simp [h0]
  by_cases h1 : b = 1
  · simp [h1]
  by_cases h2 : b = 2
  · simp [h2]
  by_cases h3 : b = 3
  · simp [h3]
  by_cases h4 : b = 4
  · simp [h4]
  · simp only [h0, h1, h2, h3, h4, if_false, true_iff]
    bv_omega

theorem askPortSet_unknown (r : Request) {payload : List Byte} (s : State) (h : portOf (byteAt payload 0).toNat = none) :
    askPortSet r payload s = answer r .badValue [] s := by
  simp only [askPortSet, h]

theorem askPortSet_refused (r : Request) {payload : List Byte} (s : State) {i : PortId}
    (hi : portOf (byteAt payload 0).toNat = some i)
    (h : boolOf (byteAt payload 1) = none ∨ profileOf (byteAt payload 2) = none ∨
      speedGiven i (s.feeds.port i) (byteAt payload 3) = none) :
    askPortSet r payload s = answer r .badValue [] s := by
  simp only [askPortSet, hi]
  split
  · rename_i henable hprofile hspeed
    rcases h with h | h | h
    · exact absurd (h.symm.trans henable) (by simp)
    · exact absurd (h.symm.trans hprofile) (by simp)
    · exact absurd (h.symm.trans hspeed) (by simp)
  · rfl

theorem askPortSet_applied (r : Request) {payload : List Byte} (s : State) {i : PortId} {enable : Bool}
    {profile : ProfileId} {speed : LineSpeed} (hi : portOf (byteAt payload 0).toNat = some i)
    (henable : boolOf (byteAt payload 1) = some enable) (hprofile : profileOf (byteAt payload 2) = some profile)
    (hspeed : speedGiven i (s.feeds.port i) (byteAt payload 3) = some speed) :
    askPortSet r payload s = answer r .ok [] (applyPort i enable profile speed s) := by
  simp only [askPortSet, hi, henable, hprofile, hspeed]

/-- A port set to a record with which it makes no choice (R118, R127). -/
theorem applyPort_none {i : PortId} {enable : Bool} {profile : ProfileId} {speed : LineSpeed} {s : State} {q : Port}
    (hq : ({ s.feeds.port i with profile := profile, speed := speed } : Port).applyEnable i enable
      (s.feeds.profile profile).cap (retainStart s) = q)
    (h : q.active = false ∨ (s.feeds.profile q.profile).hold = true) :
    applyPort i enable profile speed s = { s with feeds := s.feeds.setPort i q } := by
  have happly : applyPort i enable profile speed s = chooseOne i { s with feeds := s.feeds.setPort i q } := by
    rw [← hq]
    rfl
  rw [happly]
  have hport : ({ s with feeds := s.feeds.setPort i q } : State).feeds.port i = q := setPort_port ..
  rcases h with h | h
  · exact chooseOne_none (mayChoose_inactive (by rw [hport]; exact h))
  · refine chooseOne_held ?_
    rw [Feeds.profileOf, hport, setPort_profile]
    exact h

theorem lineThere_iff (i : PortId) (p : Port) : p.lineThere i = true ↔ i = .p0 ∨ p.linePresent = true := by
  simp [Port.lineThere]

/-- A port that is enabled becomes REFRESHING with its line present and DETACHED without, within the new cap (R118,
R120). -/
theorem applyEnable_on (i : PortId) (cap start : Nat) (p : Port) :
    p.applyEnable i true cap start = { p with
      enable := true, base := start, displayed := start, valid := start, settledSent := start
      credit := min p.credit cap, state := if i = .p0 ∨ p.linePresent = true then .refreshing else .detached } := by
  by_cases h : i = .p0 ∨ p.linePresent = true
  · have hthere : p.lineThere i = true := (lineThere_iff i p).2 h
    simp only [Port.applyEnable, if_true, if_pos h]
    rw [if_pos hthere]
    rfl
  · have hthere : ¬ p.lineThere i = true := fun h' => h ((lineThere_iff i p).1 h')
    simp only [Port.applyEnable, if_true, if_neg h]
    rw [if_neg hthere]
    rfl

/-- Settles O35. -/
theorem portSetAppliesTheEnable : Obligations.PortSetAppliesTheEnable := by
  intro tag number enable profile speed s hs c
  have hexec : exec c s = .next (askPortSet ⟨kindPortSet, tag⟩ [number, enable, profile, speed]
      (s.mapLink Link.withTaken)) := exec_serves hs rfl rfl
  rw [hexec]
  refine ⟨fun hbad => ?_, fun i prof v hi hprof hv => ?_⟩
  · have hrefused : askPortSet ⟨kindPortSet, tag⟩ [number, enable, profile, speed] (s.mapLink Link.withTaken) =
        answer ⟨kindPortSet, tag⟩ .badValue [] (s.mapLink Link.withTaken) := by
      cases hi : portOf number.toNat with
      | none => exact askPortSet_unknown _ _ hi
      | some i =>
        refine askPortSet_refused _ _ hi ?_
        rcases hbad with hnumber | henable | hprofile | ⟨hviewer, hspeed⟩
        · exact absurd (hi.symm.trans ((portOf_eq_none _).2 hnumber)) (by simp)
        · exact .inl ((boolOf_eq_none enable).2 henable)
        · exact .inr (.inl ((profileOf_isNone profile).2 hprofile))
        · have hne : i ≠ .p0 := fun h => by have := (portOf_zero hi).1 h; omega
          exact .inr (.inr ((if_neg hne).trans ((speedOf_eq_none speed).2 hspeed)))
    rw [hrefused, answer_taken_answering]
    rfl
  · intro p start q
    have hspeed : speedGiven i (s.feeds.port i) speed = some v := by
      unfold speedGiven
      by_cases hzero : i = .p0
      · rw [if_pos hzero] at hv ⊢
        rw [hv]
      · rw [if_neg hzero] at hv ⊢
        exact hv
    have hsets {on : Bool} {q' : Port} (hon : boolOf enable = some on)
        (hq : ({ p with profile := prof, speed := v } : Port).applyEnable i on (s.feeds.profile prof).cap start = q')
        (hstill : q'.active = false ∨ (s.feeds.profile q'.profile).hold = true) :
        askPortSet ⟨kindPortSet, tag⟩ [number, enable, profile, speed] (s.mapLink Link.withTaken) =
          { s with feeds := s.feeds.setPort i q', link := s.answered kindPortSet tag [0x00] } := by
      have happlied := askPortSet_applied ⟨kindPortSet, tag⟩ (payload := [number, enable, profile, speed])
        (s.mapLink Link.withTaken) hi hon hprof hspeed
      rw [happlied, applyPort_none (s := s.mapLink Link.withTaken) hq hstill, answer_eq]
      rfl
    refine ⟨fun hoff => ?_, fun hon hhold => ?_⟩
    · exact congrArg Host.Outcome.next (hsets (on := false) (by rw [hoff]; rfl) rfl (.inl rfl))
    · refine congrArg Host.Outcome.next (hsets (on := true) (by rw [hon]; rfl) ?_ (.inr hhold))
      exact applyEnable_on i _ start _

/-! ## The presence samples (R119, R120) -/

/-- A line that does not differ from line present makes no change (R119). -/
theorem sample_same {p : Port} {present : Bool} (h : present = p.linePresent) :
    p.sample present =
      (if present = p.senseReading then { p with senseRun := min (p.senseRun + 1) 200 }
        else { p with senseReading := present, senseRun := 1 }, none) := by
  unfold Port.sample
  by_cases hread : present = p.senseReading
  · simp only [if_pos hread]
    exact if_neg fun ⟨_, hne⟩ => hne (hread.symm.trans h)
  · simp only [if_neg hread]
    exact if_neg fun ⟨_, hne⟩ => hne h

/-- The 200th sample of a line that differs from line present qualifies the change (R119). -/
theorem sample_qualifies {p : Port} {present : Bool} (hread : p.senseReading = present) (hrun : p.senseRun = 199)
    (h : p.linePresent = !present) :
    p.sample present = ({ p with senseRun := 200, linePresent := present }, some present) := by
  unfold Port.sample
  rw [if_pos hread.symm]
  have hqualifies : min (p.senseRun + 1) 200 = 200 ∧ p.senseReading ≠ p.linePresent := by
    rw [hrun, hread, h]
    cases present <;> decide
  dsimp only
  rw [if_pos hqualifies, hqualifies.1, hread]

/-- The viewer ports that a sample gains (R119). -/
def gainedPorts (lines : Presence) (s : State) : List PortId :=
  viewerPorts.filter fun i => ((s.feeds.port i).sample (lineLevel lines i)).2 == some true

/-- Some viewer port in use loses its line at a sample (R120). -/
def anyLost (lines : Presence) (s : State) : Bool :=
  viewerPorts.any fun i => lostInUse (s.feeds.port i) (lineLevel lines i)

/-- A port after a sample: port 0 has no line, and a viewer port's record follows its line (R119, R120). -/
def Port.sampled (start : Nat) (lines : Presence) (i : PortId) (p : Port) : Port :=
  match i with
  | .p0 => p
  | _ => (p.sample (lineLevel lines i)).1.lineChanged start (p.sample (lineLevel lines i)).2

/-- A sample, piece by piece: the ports' records, PORT_FAULT where a port in use lost its line, and the choices of
the ports that gained theirs (R119, R120). -/
theorem runSample_eq {s : State} (h : s.boot.sensing = true) (lines : Presence) :
    runSample lines s =
      (gainedPorts lines s).foldl (fun u i => choose i u) { s with
        presence := lines, feeds := s.feeds.mapPorts (Port.sampled (retainStart s) lines)
        link := if anyLost lines s then (raise .portFault s).link else s.link } := by
  have hsensing : runSample lines s = sampleLines lines { s with presence := lines } := if_pos h
  rw [hsensing]
  have hlink : (raise .portFault { s with
      presence := lines, feeds := s.feeds.mapPorts (Port.sampled (retainStart s) lines) }).link =
      (raise .portFault s).link := raise_congr rfl rfl rfl rfl rfl
  have hpieces : sampleLines lines { s with presence := lines } =
      (gainedPorts lines s).foldl (fun u i => choose i u)
        (if anyLost lines s then raise .portFault { s with
            presence := lines, feeds := s.feeds.mapPorts (Port.sampled (retainStart s) lines) }
          else { s with presence := lines, feeds := s.feeds.mapPorts (Port.sampled (retainStart s) lines) }) := rfl
  rw [hpieces]
  congr 1
  split
  · rw [raise_link, hlink]
  · rfl

/-- A viewer port's choice changes its own record alone. -/
theorem choose_viewer {i : PortId} (h : i ≠ .p0) (s : State) :
    ∃ q, choose i s = { s with feeds := s.feeds.setPort i q } := by
  unfold choose
  split
  · split
    · exact ⟨_, takeFrame_viewer h _ s⟩
    · refine ⟨s.feeds.port i, ?_⟩
      cases i <;> rfl
  · refine ⟨s.feeds.port i, ?_⟩
    cases i <;> rfl

/-- The choices of viewer ports change the records of those that are not on hold, and nothing else. -/
theorem foldl_choose_viewer {l : List PortId} (hl : ∀ i ∈ l, i ≠ .p0) (s : State) :
    ∃ g : Feeds, l.foldl (fun u i => choose i u) s = { s with feeds := g } ∧
      ∀ i, i ∉ l ∨ (s.feeds.profileOf i).hold = true → g.port i = s.feeds.port i := by
  induction l generalizing s with
  | nil => exact ⟨s.feeds, rfl, fun _ _ => rfl⟩
  | cons k l ih =>
    obtain ⟨q, hq⟩ := choose_viewer (hl k (List.mem_cons_self ..)) s
    obtain ⟨g, hg, hports⟩ := ih (fun i hi => hl i (List.mem_cons_of_mem _ hi)) (choose k s)
    refine ⟨g, by rw [List.foldl_cons, hg, hq], fun i hi => ?_⟩
    have hport : (choose k s).feeds.port i = s.feeds.port i := by
      by_cases hik : i = k
      · have hhold : (s.feeds.profileOf i).hold = true := hi.resolve_left (by simp [hik])
        rw [← hik, choose_none (.inl (mayChoose_hold hhold))]
      · rw [hq]
        exact setPort_port_ne _ hik q
    have hprofile : (choose k s).feeds.profileOf i = s.feeds.profileOf i := by
      rw [Feeds.profileOf, hport, hq]
      exact setPort_profile ..
    rw [hports i (hi.imp (fun h hmem => h (List.mem_cons_of_mem _ hmem)) fun h => by rw [hprofile]; exact h), hport]

theorem gainedPorts_viewer (lines : Presence) (s : State) : ∀ i ∈ gainedPorts lines s, i ≠ .p0 := by
  intro i hi
  have hviewer : i ∈ viewerPorts := (List.mem_filter.1 hi).1
  rintro rfl
  revert hviewer
  decide

theorem viewer_ne {i : PortId} (h : i ∈ viewerPorts) : i ≠ .p0 := by
  rintro rfl
  revert h
  decide

/-- A viewer port's record after a sample (R119, R120). -/
theorem sampled_viewer {i : PortId} (h : i ≠ .p0) (start : Nat) (lines : Presence) (p : Port) :
    p.sampled start lines i = (p.sample (lineLevel lines i)).1.lineChanged start (p.sample (lineLevel lines i)).2 := by
  cases i
  case p0 => exact absurd rfl h
  all_goals rfl

theorem sampleChange_viewer {i : PortId} (h : i ≠ .p0) {s : State} (hs : s.boot.sensing = true) (lines : Presence) :
    sampleChange i lines s = ((s.feeds.port i).sample (lineLevel lines i)).2 := if_pos ⟨hs, h⟩

/-- A sample leaves a port's profile alone. -/
theorem sampled_profile (start : Nat) (lines : Presence) (i : PortId) (p : Port) :
    (p.sampled start lines i).profile = p.profile := by
  have hsample (present : Bool) : (p.sample present).1.profile = p.profile := by
    unfold Port.sample
    by_cases hread : present = p.senseReading
    · simp only [if_pos hread]
      split <;> rfl
    · simp only [if_neg hread]
      split <;> rfl
  have hchanged (q : Port) (change : Option Bool) : (q.lineChanged start change).profile = q.profile := by
    unfold Port.lineChanged
    split
    · rfl
    · split <;> rfl
    · split <;> rfl
  by_cases hi : i = .p0
  · rw [hi]
    rfl
  · rw [sampled_viewer hi, hchanged, hsample]

/-- A sample at which a viewer port's line is lost or gained is LINE_SENSE_SAMPLE's (log 15). -/
theorem runSample_port {s : State} (hs : s.boot.sensing = true) (lines : Presence) :
    ∃ g : Feeds, runSample lines s = { s with
        presence := lines, feeds := g
        link := if anyLost lines s then (raise .portFault s).link else s.link } ∧
      ∀ i, i ≠ .p0 → i ∉ gainedPorts lines s ∨ (s.feeds.profileOf i).hold = true →
        g.port i = (s.feeds.port i).sampled (retainStart s) lines i := by
  obtain ⟨g, hg, hports⟩ := foldl_choose_viewer (gainedPorts_viewer lines s) { s with
    presence := lines, feeds := s.feeds.mapPorts (Port.sampled (retainStart s) lines)
    link := if anyLost lines s then (raise .portFault s).link else s.link }
  refine ⟨g, (runSample_eq hs lines).trans hg, fun i _ hi => (hports i (hi.imp_right fun h => ?_)).trans (mapPorts_port ..)⟩
  rw [Feeds.profileOf, mapPorts_port, sampled_profile]
  exact h

theorem mapPorts_congr {f : Feeds} {g h : PortId → Port → Port} (e : ∀ i, g i (f.port i) = h i (f.port i)) :
    f.mapPorts g = f.mapPorts h := by
  have h0 := e .p0
  have h1 := e .p1
  have h2 := e .p2
  have h3 := e .p3
  have h4 := e .p4
  simp only [Feeds.port] at h0 h1 h2 h3 h4
  simp only [Feeds.mapPorts, h0, h1, h2, h3, h4]

/-- Settles O31. -/
theorem presenceSamplesQualify : Obligations.PresenceSamplesQualify := by
  intro lines s hs
  refine ⟨fun hsame => ?_, fun i hi => ?_⟩
  · have hviewer : ∀ i, i ≠ .p0 → i ∈ viewerPorts := by intro i hi; cases i <;> simp_all [viewerPorts]
    have hsample (i : PortId) (hi : i ≠ .p0) := sample_same (hsame i (hviewer i hi))
    have hgained : gainedPorts lines s = [] := by
      refine List.filter_eq_nil_iff.2 fun i hi => ?_
      rw [hsample i (viewer_ne hi)]
      exact Bool.false_ne_true
    have hlost : anyLost lines s = false := by
      refine List.any_eq_false.2 fun i hi => ?_
      rw [lostInUse, hsample i (viewer_ne hi)]
      exact Bool.false_ne_true
    have hnone (i : PortId) : sampleChange i lines s = none := by
      by_cases hi : i = .p0
      · exact if_neg fun h => h.2 hi
      · rw [sampleChange_viewer hi hs, hsample i hi]
    refine ⟨congrArg Host.Outcome.next ?_, fun i => ⟨if_neg ?_, if_neg ?_⟩⟩
    · rw [runSample_eq hs, hgained, hlost]
      refine congrArg (fun f => ({ s with presence := lines, feeds := f } : State)) (mapPorts_congr fun i => ?_)
      by_cases hi : i = .p0
      · rw [hi, if_pos rfl]
        rfl
      · rw [sampled_viewer hi, hsample i hi, if_neg hi]
        rfl
    · rw [hnone]
      decide
    · rw [hnone]
      decide
  · intro p start
    have hne := viewer_ne hi
    obtain ⟨g, hg, hports⟩ := runSample_port hs lines
    have hport {q : Port} {change : Option Bool} (hsample : p.sample (lineLevel lines i) = (q, change))
        (hkept : i ∉ gainedPorts lines s ∨ (s.feeds.profileOf i).hold = true) :
        (runSample lines s).feeds.port i = q.lineChanged start change := by
      rw [hg]
      refine (hports i hne hkept).trans ((sampled_viewer hne ..).trans ?_)
      exact congrArg (fun x : Port × Option Bool => x.1.lineChanged start x.2) hsample
    refine ⟨fun hlevel hread hrun hpresent hstate => ?_, fun hlevel hread hrun habsent hstate hhold => ?_⟩
    · have hsample : p.sample (lineLevel lines i) = ({ p with senseRun := 200, linePresent := false }, some false) := by
        rw [hlevel]
        exact sample_qualifies hread hrun (by rw [hpresent]; rfl)
      have hactive : p.active = true := (active_iff p).2 hstate
      have hexec : exec (.lineLost i lines) s = .next (runSample lines s) :=
        if_pos ((sampleChange_viewer hne hs lines).trans (congrArg Prod.snd hsample))
      have hungained : i ∉ gainedPorts lines s := fun h => by
        have hchange := (List.mem_filter.1 h).2
        rw [show (s.feeds.port i).sample (lineLevel lines i) = _ from hsample] at hchange
        exact Bool.false_ne_true hchange
      have hlost : anyLost lines s = true := by
        refine List.any_eq_true.2 ⟨i, hi, ?_⟩
        rw [lostInUse, show (s.feeds.port i).sample (lineLevel lines i) = _ from hsample]
        exact hactive
      refine ⟨hexec, runSample lines s, hexec, by rw [hg], ?_, by rw [hg, hlost]; rfl⟩
      rw [hport hsample (.inl hungained)]
      exact if_pos hactive
    · have hsample : p.sample (lineLevel lines i) = ({ p with senseRun := 200, linePresent := true }, some true) := by
        rw [hlevel]
        exact sample_qualifies hread hrun (by rw [habsent]; rfl)
      have hexec : exec (.lineGained i lines) s = .next (runSample lines s) :=
        if_pos ((sampleChange_viewer hne hs lines).trans (congrArg Prod.snd hsample))
      refine ⟨hexec, runSample lines s, hexec, by rw [hg], ?_⟩
      rw [hport hsample (.inr hhold)]
      exact if_pos hstate

end Sys2Proof.Machine
end

section
/-! PROOFS. The settle test (R108 to R110), the correction depth (R74) and the forced-resolution timer (R81). -/

namespace Sys2Proof.Machine

/-! ## FORCED_RESOLUTION_EXPIRY (R81) -/

/-- Settles O27. -/
theorem timerForcesResolution : Obligations.TimerForcesResolution := by
  refine ⟨fun s hnot => if_neg fun h => ?_, fun s due hdue hover => ?_⟩
  · obtain ⟨due, hsome, hover⟩ := (Option.any_eq_true _ _).1 h
    exact absurd (hnot due hsome) (Nat.not_lt.2 (of_decide_eq_true hover))
  · have hexec : exec .forcedResolutionExpiry s = .next (runBlocks (timerExpired s)) :=
      if_pos ((Option.any_eq_true _ _).2 ⟨due, hdue, decide_eq_true hover⟩)
    refine ⟨fun hstate => hexec.trans (congrArg (fun t => Host.Outcome.next (runBlocks t)) ?_),
      fun hstate hq => hexec.trans (congrArg Host.Outcome.next ?_)⟩
    · have hwaiting : (s.mapEngine fun e => { e with timerDue := none }).engine.state = .waiting := hstate
      simp only [timerExpired, hwaiting]
      simp only [beginEvaluation, Engine.beginEvaluation, State.mapEngine, Bool.or_true]
      rfl
    · have hstalled : (s.mapEngine fun e => { e with timerDue := none }).engine.state = .stalled := hstate
      simp only [timerExpired, hstalled]
      exact runBlocks_same (s := s) hq rfl rfl rfl rfl rfl rfl rfl

/-! ## What the ports' choices leave alone -/

/-- A choice of output changes the feed unit and the outbound queue, and nothing else. -/
theorem choose_changes (i : PortId) (s : State) : ∃ f l, choose i s = { s with feeds := f, link := l } := by
  by_cases hi : i = .p0
  · subst hi
    unfold choose
    split
    · split
      · exact ⟨_, _, enqueue_link ..⟩
      · exact ⟨_, _, rfl⟩
    · exact ⟨_, _, rfl⟩
  · obtain ⟨q, hq⟩ := choose_viewer hi s
    exact ⟨_, _, hq⟩

theorem chooseRun_changes (n : Nat) (s : State) : ∃ f l, chooseRun n s = { s with feeds := f, link := l } := by
  induction n generalizing s with
  | zero => exact ⟨_, _, rfl⟩
  | succ n ih =>
    unfold chooseRun
    split
    · obtain ⟨f, l, h⟩ := choose_changes .p0 s
      obtain ⟨f', l', h'⟩ := ih (choose .p0 s)
      exact ⟨f', l', by rw [h', h]⟩
    · exact ⟨_, _, rfl⟩

theorem chooseAll_changes (s : State) : ∃ f l, chooseAll s = { s with feeds := f, link := l } := by
  obtain ⟨f0, l0, h0⟩ := chooseRun_changes Config.noticePlaces s
  obtain ⟨f1, l1, h1⟩ := choose_changes .p1 (choosePortZero s)
  obtain ⟨f2, l2, h2⟩ := choose_changes .p2 (choose .p1 (choosePortZero s))
  obtain ⟨f3, l3, h3⟩ := choose_changes .p3 (choose .p2 (choose .p1 (choosePortZero s)))
  obtain ⟨f4, l4, h4⟩ := choose_changes .p4 (choose .p3 (choose .p2 (choose .p1 (choosePortZero s))))
  have h0 : choosePortZero s = { s with feeds := f0, link := l0 } := h0
  exact ⟨f4, l4, by rw [chooseAll, h4, h3, h2, h1, h0]⟩

/-! ## The settle test (R108 to R110) -/

/-- The stream after its oldest chunk settles (R109, R110). -/
def Stream.settle (t : Stream) (c : Chunk) : Stream :=
  { t with
    unrecordedPoint :=
      if (t.modeSeen == .passing && !t.covers c) && t.unrecordedPoint.isNone then some c.start else t.unrecordedPoint
    store := lastN Config.retainedBytes (t.store ++ c.text)
    settled := t.settled + c.text.length }

theorem settleOldest_eq (c : Chunk) (s : State) :
    settleOldest c s = feedSettled { s with
      stream := s.stream.settle c
      engine := ({ s.engine with chunks := s.engine.chunks.drop 1 } : Engine).chunkFreed } := rfl

theorem chunkFreed_chunks (e : Engine) : e.chunkFreed.chunks = e.chunks := by
  unfold Engine.chunkFreed
  split <;> rfl

/-- What settling one chunk does to the stream and the list; the channel table, the parameter store and the device
are left alone. -/
theorem settleOldest_parts (c : Chunk) (s : State) :
    (settleOldest c s).stream = s.stream.settle c ∧
      (settleOldest c s).engine.chunks = s.engine.chunks.drop 1 := by
  rw [settleOldest_eq]
  obtain ⟨f, l, h⟩ := chooseAll_changes (({ s with
      stream := s.stream.settle c
      engine := ({ s.engine with chunks := s.engine.chunks.drop 1 } : Engine).chunkFreed } : State).mapFeeds fun f =>
    f.mapPorts fun _ p =>
      if p.outrun ((s.stream.settle c).settled - Config.retainedBytes) (s.stream.settle c).settled then
        p.enter .refreshing ((s.stream.settle c).settled - Config.retainedBytes) else p)
  have hfeed : feedSettled { s with
      stream := s.stream.settle c
      engine := ({ s.engine with chunks := s.engine.chunks.drop 1 } : Engine).chunkFreed } = _ := h
  rw [hfeed]
  exact ⟨rfl, chunkFreed_chunks _⟩

/-- A chunk qualifies to settle (R108), as far as the stream has been told. -/
def Stream.settles (t : Stream) (c : Chunk) : Bool := !c.isOpen && (t.covers c || t.modeSeen == .passing)

theorem settle_settles (t : Stream) (c : Chunk) : (t.settle c).settles = t.settles := rfl

theorem settleFrom_cons (c : Chunk) (rest : List Chunk) (s : State) :
    settleFrom (c :: rest) s = if s.stream.settles c then settleFrom rest (settleOldest c s) else s := rfl

theorem lastN_append (n : Nat) (a b : List Byte) : lastN n (lastN n a ++ b) = lastN n (a ++ b) := by
  simp only [lastN, List.length_append, List.length_drop, List.drop_append, List.drop_drop]
  congr 1
  · congr 1
    omega
  · congr 1
    omega

/-- The stream after chunks settle in order. -/
def Stream.settleAll (t : Stream) : List Chunk → Stream
  | [] => t
  | c :: rest => (t.settle c).settleAll rest

/-- The chunks settle oldest first, up to the first that does not qualify (R108). -/
theorem settleFrom_parts (cs : List Chunk) (s : State) (h : s.engine.chunks = cs) :
    (settleFrom cs s).stream = s.stream.settleAll (cs.takeWhile s.stream.settles) ∧
      (settleFrom cs s).engine.chunks = cs.dropWhile s.stream.settles := by
  induction cs generalizing s with
  | nil => exact ⟨rfl, h⟩
  | cons c rest ih =>
    obtain ⟨hstream, hchunks⟩ := settleOldest_parts c s
    rw [settleFrom_cons]
    by_cases hc : s.stream.settles c = true
    · have hsettles : (settleOldest c s).stream.settles = s.stream.settles := by rw [hstream, settle_settles]
      obtain ⟨hs, hl⟩ := ih (settleOldest c s) (by rw [hchunks, h]; rfl)
      rw [if_pos hc, List.takeWhile_cons_of_pos hc, List.dropWhile_cons_of_pos hc, hs, hl, hsettles, hstream]
      exact ⟨rfl, rfl⟩
    · rw [if_neg hc, List.takeWhile_cons_of_neg hc, List.dropWhile_cons_of_neg hc]
      exact ⟨rfl, h⟩

/-- The settled point and the store after chunks settle (R109). -/
theorem settleAll_parts (t : Stream) (cs : List Chunk) :
    (t.settleAll cs).settled = t.settled + ((cs.map (·.text)).flatten).length ∧
      (t.settleAll cs).length = t.length ∧
      (cs ≠ [] → (t.settleAll cs).store = lastN Config.retainedBytes (t.store ++ (cs.map (·.text)).flatten)) := by
  induction cs generalizing t with
  | nil => exact ⟨rfl, rfl, fun h => absurd rfl h⟩
  | cons c rest ih =>
    obtain ⟨hsettled, hlength, hstore⟩ := ih (t.settle c)
    refine ⟨?_, hlength, fun _ => ?_⟩
    · rw [Stream.settleAll, hsettled, List.map_cons, List.flatten_cons, List.length_append, ← Nat.add_assoc]
      rfl
    · cases rest with
      | nil => simp [Stream.settleAll, Stream.settle]
      | cons d rest =>
        have hstep : (t.settle c).store = lastN Config.retainedBytes (t.store ++ c.text) := by
          simp only [Stream.settle]
        have htexts : ((c :: d :: rest).map (·.text)).flatten = c.text ++ ((d :: rest).map (·.text)).flatten := by
          rw [List.map_cons, List.flatten_cons]
        rw [Stream.settleAll, hstore (by simp), hstep, lastN_append, htexts, List.append_assoc]

theorem covers_eq (t : Stream) (c : Chunk) :
    t.covers c = match t.durableSeen with | some n => decide (c.lastSeq ≤ n) | none => false := by
  unfold Stream.covers
  cases t.durableSeen <;> rfl

theorem settleTest_outside_parts (s : State) :
    (settleTest s).keys = s.keys ∧ (settleTest s).params = s.params ∧ (settleTest s).device = s.device := by
  obtain ⟨henv, hkeys, hparams, -⟩ := outside_eq.1 (settleTest_outside s)
  exact ⟨hkeys, hparams, (env_eq.1 henv).1⟩

/-- A FOLLOWING port that can no longer be mended enters REFRESHING (R125). -/
theorem outrun_eq (p : Port) (start settled : Nat) :
    (if p.outrun start settled then p.enter .refreshing start else p) =
      if p.state = .following ∧ (p.valid < start ∨ (p.valid < settled ∧ p.valid < p.displayed)) then
        { p with state := .refreshing, base := start, displayed := start, valid := start, settledSent := start }
      else p := by
  have hiff : p.outrun start settled = true ↔
      p.state = .following ∧ (p.valid < start ∨ (p.valid < settled ∧ p.valid < p.displayed)) := by
    simp [Port.outrun]
  simp only [hiff]
  rfl

/-- One chunk settles with the engine not STALLED and all profiles on hold (R109, R110, R125). -/
theorem settleOldest_held (c : Chunk) {s : State} (hstate : s.engine.state ≠ .stalled) (hold : s.feeds.onHold) :
    settleOldest c s = { s with
      engine := { s.engine with chunks := s.engine.chunks.drop 1 }
      stream := s.stream.settle c
      feeds := s.feeds.mapPorts fun _ p =>
        if p.outrun (s.stream.settled + c.text.length - 2048) (s.stream.settled + c.text.length) then
          p.enter .refreshing (s.stream.settled + c.text.length - 2048)
        else p } := by
  have hfreed : ({ s.engine with chunks := s.engine.chunks.drop 1 } : Engine).chunkFreed =
      { s.engine with chunks := s.engine.chunks.drop 1 } := if_neg hstate
  rw [settleOldest_eq, hfreed]
  exact chooseAll_onHold (s := { s with
      engine := { s.engine with chunks := s.engine.chunks.drop 1 }
      stream := s.stream.settle c
      feeds := s.feeds.mapPorts fun _ p =>
        if p.outrun (s.stream.settled + c.text.length - 2048) (s.stream.settled + c.text.length) then
          p.enter .refreshing (s.stream.settled + c.text.length - 2048)
        else p }) hold

/-- A run of one chunk at the front: that chunk, and one that does not qualify or none. -/
theorem takeWhile_one {α : Type} {p : α → Bool} {l : List α} {a : α} (h : l.takeWhile p = [a]) :
    ∃ rest, l = a :: rest ∧ p a = true ∧ ∀ b, rest.head? = some b → p b = false := by
  match l, h with
  | b :: rest, h =>
    by_cases hb : p b = true
    · rw [List.takeWhile_cons_of_pos hb, List.cons.injEq] at h
      obtain ⟨rfl, hrest⟩ := h
      refine ⟨rest, rfl, hb, fun d hd => ?_⟩
      match rest, hrest, hd with
      | d' :: rest', hrest, hd =>
        have hd' : d' = d := by simpa using hd
        refine Bool.eq_false_iff.2 fun hp => ?_
        rw [List.takeWhile_cons_of_pos (by rw [hd']; exact hp)] at hrest
        cases hrest
    · rw [List.takeWhile_cons_of_neg hb] at h
      cases h

theorem settleFrom_stops {cs : List Chunk} {s : State} (h : ∀ c, cs.head? = some c → s.stream.settles c = false) :
    settleFrom cs s = s := by
  match cs, h with
  | [], _ => rfl
  | c :: rest, h => exact if_neg (by rw [show qualifies s c = s.stream.settles c from rfl, h c rfl]; decide)

/-- Settles O30. -/
theorem chunksSettleInOrder : Obligations.ChunksSettleInOrder := by
  intro s durable settles gone text store t
  have hsettles : s.stream.settles = settles := by
    funext c
    simp only [Stream.settles, covers_eq]
    rfl
  obtain ⟨hstream, hchunks⟩ := settleFrom_parts s.engine.chunks s rfl
  rw [hsettles] at hstream hchunks
  obtain ⟨hsettled, hlength, hstore⟩ := settleAll_parts s.stream gone
  obtain ⟨hkeys, hparams, hdevice⟩ := settleTest_outside_parts s
  have hts : t.stream = s.stream.settleAll gone := hstream
  refine ⟨hchunks, by rw [hts, hsettled], by rw [hts, hlength], fun hgone => by rw [hts, hstore hgone]; rfl,
    fun hnone => settleFrom_stops fun c hc => ?_, hkeys, hparams, hdevice, ?_⟩
  · refine Bool.eq_false_iff.2 fun hsettle => ?_
    obtain ⟨others, hcons⟩ := List.head?_eq_some_iff.1 hc
    have hpos : settles c = true := by
      rw [← hsettles]
      exact hsettle
    have hsome : gone = c :: others.takeWhile settles := by
      refine Eq.trans ?_ (List.takeWhile_cons_of_pos hpos)
      rw [← hcons]
    rw [hnone] at hsome
    cases hsome
  · intro c hone hstate hA hB hC
    obtain ⟨rest, hlist, hc, hrest⟩ := takeWhile_one hone
    rw [← hsettles] at hc hrest
    have htext : text = c.text := by simp [text, hone]
    have hstops : settleFrom rest (settleOldest c s) = settleOldest c s :=
      settleFrom_stops fun b hb => by rw [(settleOldest_parts c s).1, settle_settles]; exact hrest b hb
    have ht : t = settleOldest c s := by
      have hfrom : t = settleFrom (c :: rest) s := by rw [← hlist]; rfl
      rw [hfrom, settleFrom_cons, if_pos hc, hstops]
    have hpoint : (s.stream.settle c).unrecordedPoint =
        if s.stream.unrecordedPoint = none ∧ s.stream.modeSeen = .passing ∧ durable c = false then some c.start
        else s.stream.unrecordedPoint := by
      have hdurable : s.stream.covers c = durable c := covers_eq ..
      simp only [Stream.settle, hdurable, Bool.and_eq_true, beq_iff_eq, Bool.not_eq_true', Option.isNone_iff_eq_none]
      exact ite_cond_congr and_comm
    intro settled start
    rw [ht, settleOldest_held c hstate ⟨hA, hB, hC⟩]
    have hstreams : s.stream.settle c = { s.stream with
        settled := settled, store := store.drop (store.length - 2048)
        unrecordedPoint :=
          if s.stream.unrecordedPoint = none ∧ s.stream.modeSeen = .passing ∧ durable c = false then some c.start
          else s.stream.unrecordedPoint } := by
      rw [← hpoint]
      simp only [settled, store, htext]
      rfl
    rw [hstreams]
    simp only [outrun_eq, settled, start, htext]

/-! ## SET_CORRECTION_DEPTH (R74) -/

theorem closeReached_none {depth : Nat} {chunks : List Chunk}
    (h : ∀ c ∈ chunks, (c.isOpen && decide (depth ≤ c.afterCount)) = false) : closeReached depth chunks = chunks := by
  refine (List.map_congr_left fun c hc => ?_).trans (List.map_id chunks)
  rw [h c hc]
  rfl

/-- A new depth is stored, the chunks that reach it close, and where there are any the settle test is run (R74). -/
theorem applyDepth_eq (depth : Nat) (s : State) :
    applyDepth depth s =
      let stored : State := { s with
        params := { s.params with depth := depth }
        engine := { s.engine with chunks := closeReached depth s.engine.chunks } }
      if s.engine.chunks.any fun c => c.isOpen && decide (depth ≤ c.afterCount) then settleTest stored else stored := rfl

/-- Settles O29. -/
theorem correctionDepthClosesChunks : Obligations.CorrectionDepthClosesChunks := by
  intro tag value s hs depth reached closed stored answered
  have happlied : clamp 0 16 value.toNat = depth := by simp only [clamp, Nat.max_zero, depth]
  have hexec : exec (.setCorrectionDepth tag [value]) s = .next (runBlocks (answerParam ⟨kindSetParam, tag⟩ 0x06
      (be8 depth) (applyDepth depth (s.mapLink Link.withTaken)))) := by
    rw [exec_serves (c := .setCorrectionDepth tag [value]) (payload := [value])
      (owner := askSetCorrectionDepth) hs rfl rfl, askSetCorrectionDepth, setByte_one, happlied]
  have hanswered (t : State) (hnow : t.now = s.now) :
      answerParam ⟨kindSetParam, tag⟩ 0x06 (be8 depth) t = answered t := by
    rw [answerParam, answer_eq]
    simp only [answered, ← hnow]
    rfl
  have hdepth := applyDepth_eq depth (s.mapLink Link.withTaken)
  refine ⟨?_, fun c hc hreached => ?_, fun hnone => ?_⟩
  · refine ⟨_, hexec, ?_⟩
    have hbase : (runBlocks (answerParam ⟨kindSetParam, tag⟩ 0x06 (be8 depth)
        (applyDepth depth (s.mapLink Link.withTaken)))).base =
        ((s.mapLink Link.withTaken).mapParams fun p => { p with depth := depth }).base := by
      rw [runBlocks_base, answerParam, base_of_outside (answer_outside ..), applyDepth_base]
    obtain ⟨henv, hkeys, hparams, hoverlay⟩ := base_eq.1 hbase
    exact ⟨hparams, (env_eq.1 henv).1, hkeys, hoverlay⟩
  · have hany : ((s.mapLink Link.withTaken).engine.chunks.any fun c =>
        c.isOpen && decide (depth ≤ c.afterCount)) = true := List.any_eq_true.2 ⟨c, hc, hreached⟩
    dsimp only at hdepth
    rw [if_pos hany] at hdepth
    have hnow : (settleTest stored).now = s.now := (env_eq.1 (env_of_outside (settleTest_outside stored))).2.2.1
    rw [hexec, hdepth]
    exact congrArg (fun t => Host.Outcome.next (runBlocks t)) (hanswered (settleTest stored) hnow)
  · have hany : ¬ ((s.mapLink Link.withTaken).engine.chunks.any fun c =>
        c.isOpen && decide (depth ≤ c.afterCount)) = true := by
      rw [List.any_eq_true]
      rintro ⟨c, hc, hreached⟩
      exact absurd (hnone c hc) (by rw [show reached c = true from hreached]; decide)
    dsimp only at hdepth
    rw [if_neg hany] at hdepth
    have hstored : exec (.setCorrectionDepth tag [value]) s = .next (runBlocks (answered stored)) := by
      rw [hexec, hdepth]
      exact congrArg (fun t => Host.Outcome.next (runBlocks t)) (hanswered stored rfl)
    refine ⟨hstored, fun hq => ?_⟩
    have hclosed : closed = s.engine.chunks := closeReached_none hnone
    rw [hstored]
    simp only [answered, stored, hclosed]
    exact congrArg Host.Outcome.next (runBlocks_same hq rfl rfl rfl rfl rfl rfl rfl)

end Sys2Proof.Machine
end

section
/-! PROOFS. Stroke codes and sequences of a payload (R53, R55) and OVERLAY_QUERY (R57, R58). -/

namespace Sys2Proof.Machine

/-! ## Stroke codes of three bytes each (R181) -/

/-- The values of a field of whole codes, one at each third byte. -/
theorem codesOf_eq_range (n : Nat) :
    ∀ l : List Byte, l.length = 3 * n → codesOf l = (List.range n).map fun i => fieldAt l (3 * i) 3 := by
  induction n with
  | zero =>
    intro l hl
    rw [List.length_eq_zero_iff.1 (by omega : l.length = 0)]
    rfl
  | succ n ih =>
    intro l hl
    match l, hl with
    | a :: b :: c :: rest, hl =>
      have hrest : rest.length = 3 * n := by simp only [List.length_cons] at hl; omega
      rw [codesOf, ih rest hrest, List.range_succ_eq_map, List.map_cons, List.map_map]
      rfl

/-- A value below 2^24 is read back from its three bytes. -/
theorem beValue_be24 {n : Nat} (h : n < 0x1000000) : beValue (be24 n) = n := by
  rw [be24, beValue_three]
  simp only [BitVec.toNat_ofNat]
  omega

/-- The codes written to a payload are read back. -/
theorem codesOf_flatMap (codes : List Code) :
    codesOf (codes.flatMap fun c => be24 c.toNat) = codes.map (·.toNat) := by
  induction codes with
  | nil => rfl
  | cons c rest ih =>
    have hc : c.toNat < 0x1000000 := by have := c.isLt; omega
    rw [List.flatMap_cons, List.map_cons, ← ih]
    exact congrArg (· :: _) (beValue_be24 hc)

theorem toCodes_map_toNat (codes : List Code) : toCodes (codes.map (·.toNat)) = codes := by
  simp [toCodes, Function.comp_def]

theorem validCode_toNat {c : Code} (h : c ≠ 0) : validCode c.toNat = true := by
  have hpos : 0 < c.toNat := Nat.pos_of_ne_zero fun h0 => h (BitVec.eq_of_toNat_eq h0)
  have hlt : c.toNat < 0x800000 := c.isLt
  simp [validCode, hpos, hlt]

theorem all_validCode_toNat {codes : List Code} (h : ∀ c ∈ codes, c ≠ 0) :
    (codes.map (·.toNat)).all validCode = true := by
  rw [List.all_map, List.all_eq_true]
  exact fun c hc => validCode_toNat (h c hc)

theorem length_flatMap_be24 (codes : List Code) :
    (codes.flatMap fun c => be24 c.toNat).length = 3 * codes.length := by
  induction codes with
  | nil => rfl
  | cons c rest ih =>
    rw [List.flatMap_cons, List.length_append, ih, List.length_cons]
    simp only [be24, List.length_cons, List.length_nil]
    omega

/-- A code that R53 does not allow, at some place of a field, is found in it. -/
theorem all_validCode_eq_false {l : List Byte} {n i : Nat} (hl : l.length = 3 * n) (hi : i < n)
    (h : fieldAt l (3 * i) 3 = 0 ∨ 0x800000 ≤ fieldAt l (3 * i) 3) : (codesOf l).all validCode = false := by
  rw [codesOf_eq_range n l hl, List.all_eq_false]
  refine ⟨_, List.mem_map_of_mem (List.mem_range.2 hi), ?_⟩
  simp only [validCode, Bool.and_eq_true, decide_eq_true_eq]
  omega

/-! ## The sequence of an UNDEFINE or an OVERLAY_QUERY (R55) -/

/-- A sequence as a payload carries it. -/
theorem sequenceField_ok {codes : List Code} (hone : 1 ≤ codes.length) (height : codes.length ≤ 8)
    (hc : ∀ c ∈ codes, c ≠ 0) :
    sequenceField ([BitVec.ofNat 8 codes.length] ++ codes.flatMap fun c => be24 c.toNat) = .ok codes := by
  have hcount : (byteAt ([BitVec.ofNat 8 codes.length] ++ codes.flatMap fun c => be24 c.toNat) 0).toNat
      = codes.length := by
    change (BitVec.ofNat 8 codes.length).toNat = _
    rw [BitVec.toNat_ofNat]; omega
  have hdrop : codesOf (([BitVec.ofNat 8 codes.length] ++ codes.flatMap fun c => be24 c.toNat).drop 1)
      = codes.map (·.toNat) := codesOf_flatMap codes
  have hlength : ([BitVec.ofNat 8 codes.length] ++ codes.flatMap fun c => be24 c.toNat).length
      = 1 + 3 * codes.length := by
    rw [List.length_append, length_flatMap_be24]; rfl
  simp only [sequenceField, hcount, hdrop, hlength, all_validCode_toNat hc, hone, height,
    toCodes_map_toNat, ne_eq, not_true_eq_false, if_false, decide_true, Bool.and_self, Bool.not_true,
    Bool.false_eq_true]

theorem sequenceField_badLength {payload : List Byte}
    (h : payload.length ≠ 1 + 3 * (payload.getD 0 0).toNat) : sequenceField payload = .error .badLength :=
  if_pos h

theorem sequenceField_badValue {payload : List Byte}
    (hl : payload.length = 1 + 3 * (payload.getD 0 0).toNat)
    (h : (payload.getD 0 0).toNat = 0 ∨ 8 < (payload.getD 0 0).toNat ∨ ∃ i < (payload.getD 0 0).toNat,
      beValue ((payload.drop (1 + 3 * i)).take 3) = 0 ∨ 0x800000 ≤ beValue ((payload.drop (1 + 3 * i)).take 3)) :
    sequenceField payload = .error .badValue := by
  refine (if_neg (Classical.not_not.2 hl)).trans (if_pos ?_)
  have hbad : (1 ≤ (payload.getD 0 0).toNat && (payload.getD 0 0).toNat ≤ 8 &&
      (codesOf (payload.drop 1)).all validCode) = false := by
    obtain hzero | hmany | ⟨i, hi, hcode⟩ := h
    · simp only [hzero]; rfl
    · rw [decide_eq_false (Nat.not_le.2 hmany), Bool.and_false, Bool.false_and]
    · rw [all_validCode_eq_false (n := (payload.getD 0 0).toNat) (i := i)
        (by rw [List.length_drop, hl]; omega) hi
        (by rw [fieldAt, List.drop_drop]; exact hcode), Bool.and_false]
  exact (congrArg (!·) hbad)

/-! ## The overlay's entry of a sequence (R57) -/

/-- Two members of a list that a function without repeats sends to the same are the same. -/
theorem eq_of_nodup_map {α β : Type} {g : α → β} {l : List α} (hn : (l.map g).Nodup) {a b : α} (ha : a ∈ l) (hb : b ∈ l)
    (h : g a = g b) : a = b := by
  induction l with
  | nil => cases ha
  | cons x xs ih =>
    rw [List.map_cons, List.nodup_cons] at hn
    obtain ⟨hx, hxs⟩ := hn
    rcases List.mem_cons.1 ha with rfl | ha'
    · rcases List.mem_cons.1 hb with rfl | hb'
      · rfl
      · exact absurd (List.mem_map.2 ⟨b, hb', h.symm⟩) hx
    · rcases List.mem_cons.1 hb with rfl | hb'
      · exact absurd (List.mem_map.2 ⟨a, ha', h⟩) hx
      · exact ih hxs ha' hb'

/-- The entry of a sequence is the one found, no two having the same. -/
theorem overlayMatch_of_mem {overlay : List OverlayEntry} (hn : (overlay.map (·.sequence)).Nodup)
    {e : OverlayEntry} (he : e ∈ overlay) : overlayMatch overlay e.sequence = some e := by
  cases hfind : overlayMatch overlay e.sequence with
  | none => exact absurd (List.find?_eq_none.1 hfind e he) (by simp)
  | some x =>
    have hfound := hfind
    rw [overlayMatch] at hfound
    have hsame : x.sequence = e.sequence := by simpa using List.find?_some hfound
    exact congrArg some (eq_of_nodup_map hn (List.mem_of_find?_eq_some hfound) he hsame)

theorem overlayMatch_none {overlay : List OverlayEntry} {codes : List Code}
    (h : ∀ e ∈ overlay, e.sequence ≠ codes) : overlayMatch overlay codes = none :=
  List.find?_eq_none.2 fun e he => by simpa using h e he

theorem take_beq_isPrefixOf (codes sequence : List Code) :
    (sequence.take codes.length == codes) = codes.isPrefixOf sequence := by
  rw [Bool.eq_iff_iff, beq_iff_eq, List.isPrefixOf_iff_prefix, List.prefix_iff_eq_take]
  exact eq_comm

/-- The continuation is yes when a longer entry begins with the sequence. -/
theorem overlayContinues_eq (overlay : List OverlayEntry) (codes : List Code) :
    overlayContinues overlay codes =
      overlay.any fun x => codes.isPrefixOf x.sequence && codes.length < x.sequence.length := by
  simp only [overlayContinues, take_beq_isPrefixOf, Bool.and_comm]

/-! ## OVERLAY_QUERY (R58) -/

theorem overlayQuery_answers {tag : Byte} {payload : List Byte} {codes : List Code} {s : State}
    (h : s.serves tag) (hs : sequenceField payload = .ok codes) :
    exec (.overlayQuery tag payload) s = .next
      (match overlayMatch s.dict.overlay codes with
        | some e => s.answering 0x0E tag ([0x00, e.flags, boolCode (overlayContinues s.dict.overlay codes)] ++
            be16 s.dict.overlay.length ++ be8 e.text.length ++ e.text)
        | none => s.answering 0x0E tag ([0x07, boolCode (overlayContinues s.dict.overlay codes)] ++
            be16 s.dict.overlay.length)) := by
  refine (exec_serves h rfl rfl).trans (congrArg Host.Outcome.next ?_)
  simp only [askOverlayQuery, hs]
  change (match overlayMatch s.dict.overlay codes with
    | some e => _
    | none => _) = _
  cases overlayMatch s.dict.overlay codes with
  | some e => exact answer_taken_answering _ _ _ _ s
  | none => exact answer_taken_answering _ _ _ _ s

theorem overlayQuery_refuses {tag : Byte} {payload : List Byte} {code : ReplyCode} {s : State}
    (h : s.serves tag) (hs : sequenceField payload = .error code) :
    exec (.overlayQuery tag payload) s = .next (s.answering 0x0E tag [replyCodeByte code]) := by
  refine (exec_serves h rfl rfl).trans (congrArg Host.Outcome.next ?_)
  simp only [askOverlayQuery, hs]
  exact answer_taken_answering _ _ _ _ _

/-- Settles O26. -/
theorem overlayQueryReportsTheEntry : Obligations.OverlayQueryReportsTheEntry := by
  refine ⟨?_, ?_⟩
  · intro tag codes s hs hok hone height hc payload continues
    have hfield : sequenceField payload = .ok codes := sequenceField_ok hone height hc
    refine ⟨fun e he hseq => ?_, fun hnone => ?_⟩
    · rw [overlayQuery_answers hs hfield, ← hseq, overlayMatch_of_mem hok.2 he, overlayContinues_eq, hseq]
      rfl
    · rw [overlayQuery_answers hs hfield, overlayMatch_none hnone, overlayContinues_eq]
  · intro tag payload s hs strokes
    exact ⟨fun hl => overlayQuery_refuses hs (sequenceField_badLength hl),
      fun hl hbad => overlayQuery_refuses hs (sequenceField_badValue hl hbad)⟩

end Sys2Proof.Machine
end

section
/-! PROOFS. The overlay's changes (R53 to R56), the engine's part in them (R95) and the reach-back (R97, R98). -/

namespace Sys2Proof.Machine

/-! ## The reach-back's region (R98) -/

/-- The region is the OPEN chunks at the end, as many as the room holds: the chunk before it does not join. -/
theorem reachBackRegion_append {room : Nat} {region : List Chunk} (hopen : ∀ x ∈ region, x.isOpen = true)
    (hfits : (strokesOf region).length ≤ room) :
    ∀ kept : List Chunk, (∀ x, kept.getLast? = some x → x.isOpen = false ∨ room < (strokesOf (x :: region)).length) →
      reachBackRegion room (kept ++ region) = region
  | [], _ => by
    cases region with
    | nil => rfl
    | cons first others =>
      refine if_pos ?_
      rw [List.all_eq_true.2 hopen, decide_eq_true hfits]
      rfl
  | k :: ks, hlast => by
    have hrest : reachBackRegion room (ks ++ region) = region :=
      reachBackRegion_append hopen hfits ks fun x hx => hlast x (by rw [List.getLast?_cons, hx]; rfl)
    refine (if_neg fun hall => ?_).trans hrest
    obtain ⟨hallOpen, hallFit⟩ := Bool.and_eq_true_iff.1 hall
    obtain ⟨x, hx⟩ : ∃ x, (k :: ks).getLast? = some x := ⟨_, List.getLast?_cons⟩
    obtain ⟨init, hinit⟩ := List.getLast?_eq_some_iff.1 hx
    have hwhole : k :: (ks ++ region) = init ++ x :: region := by
      rw [← List.cons_append, hinit, List.append_assoc]; rfl
    obtain hclosed | hover := hlast x hx
    · exact Bool.false_ne_true (hclosed.symm.trans
        (List.all_eq_true.1 hallOpen x (hwhole ▸ List.mem_append_right _ List.mem_cons_self)))
    · have hlength : (strokesOf (k :: (ks ++ region))).length ≤ room := of_decide_eq_true hallFit
      rw [hwhole, strokesOf, List.flatMap_append, List.length_append] at hlength
      exact absurd (Nat.le_trans (Nat.le_add_left _ _) hlength) (Nat.not_le.2 hover)

/-- The engine with the chunks from one on taken back into the window (R97). -/
def Engine.reached (e : Engine) (kept : List Chunk) (first : Chunk) (others : List Chunk) : Engine :=
  { e with
    chunks := kept, carry := first.carryIn, resolvedEnd := first.start, tail := []
    window := strokesOf (first :: others) ++ e.window }

theorem reachBack_none {s : State}
    (h : reachBackRegion (Config.windowStrokes - s.engine.window.length) s.engine.chunks = []) :
    reachBack s = s := by
  simp only [reachBack, h]

theorem reachBack_some {s : State} {kept others : List Chunk} {first : Chunk}
    (hchunks : s.engine.chunks = kept ++ first :: others)
    (h : reachBackRegion (Config.windowStrokes - s.engine.window.length) s.engine.chunks = first :: others) :
    reachBack s =
      if first.start < s.stream.length then
        applyRetract first.start { s with engine := s.engine.reached kept first others }
      else { s with engine := s.engine.reached kept first others } := by
  have hkept : s.engine.chunks.take (s.engine.chunks.length - (first :: others).length) = kept := by
    rw [hchunks, List.length_append, Nat.add_sub_cancel, List.take_left]
  simp only [reachBack, h]
  simp only [State.mapEngine]
  rw [hkept]
  rfl

/-! ## The engine at a change of the overlay (R95) -/

/-- The engine with an evaluation begun over its window and no match kept (R62, R63). -/
def Engine.restarted (e : Engine) (forced : Bool) : Engine :=
  { e with
    state := .evaluating, cache := [], timerDue := none
    run := some { forced := forced, work := e.window, resolved := [], cut := false, parsing := false, answers := [] } }

/-- An evaluation that a change of the overlay begins is forced (R95). -/
def Engine.owed (e : Engine) : Bool := e.state == .stalled && e.forceOwed

/-- The engine with no match kept (R62). -/
def State.uncached (s : State) : State := { s with engine := { s.engine with cache := [] } }

theorem overlayChanged_resting {s : State} (reach : Bool)
    (h : s.engine.state = .idle ∨ s.engine.state = .draining) : overlayChanged reach s = s.uncached := by
  obtain h | h := h <;>
    · have h' : (s.mapEngine fun e => { e with cache := [] }).engine.state = _ := h
      simp only [overlayChanged, h']
      rfl

theorem overlayChanged_evaluating {s : State} (reach : Bool) (h : s.engine.state = .evaluating) :
    overlayChanged reach s = { s with
      engine := { s.engine with
        cache := [], reevaluationPending := true, reachBackPending := s.engine.reachBackPending || reach } } := by
  have h' : (s.mapEngine fun e => { e with cache := [] }).engine.state = .evaluating := h
  simp only [overlayChanged, h']
  rfl

/-- Neither the reach-back nor its RETRACT touches these items of the engine. -/
theorem reachBack_keeps (s : State) :
    (reachBack s).engine.state = s.engine.state ∧ (reachBack s).engine.forceOwed = s.engine.forceOwed ∧
      (reachBack s).engine.cache = s.engine.cache := by
  have hretract (pos : Nat) (u : State) : (applyRetract pos u).engine = u.engine := by
    obtain ⟨f, l, h⟩ := chooseAll_changes ((u.mapStream fun x => { x with length := pos }).mapFeeds fun f =>
      f.mapPorts fun _ p => { p with valid := min p.valid pos })
    exact (congrArg State.engine h :)
  unfold reachBack
  dsimp only
  split
  · exact ⟨rfl, rfl, rfl⟩
  · split
    · rw [hretract]; exact ⟨rfl, rfl, rfl⟩
    · exact ⟨rfl, rfl, rfl⟩

/-- An evaluation begun, forced where it was owed in STALLED. -/
theorem beginEvaluation_restarted {s : State} (hcache : s.engine.cache = []) {forced : Bool}
    (h : forced = true → s.engine.forceOwed = true) :
    beginEvaluation forced s = { s with engine := s.engine.restarted forced } := by
  have howed : (s.engine.forceOwed || forced) = s.engine.forceOwed := by
    cases forced with
    | false => exact Bool.or_false _
    | true => rw [h rfl]; rfl
  simp only [beginEvaluation, Engine.beginEvaluation, Engine.restarted, EvalRun.begin, State.mapEngine, howed, ← hcache]

theorem overlayChanged_begins {s : State} (reach : Bool)
    (h : s.engine.state = .waiting ∨ s.engine.state = .stalled) :
    overlayChanged reach s =
      (if reach then reachBack s.uncached else s.uncached).mapEngine
        (·.restarted s.engine.owed) := by
  have hkeeps : ∀ u, (u = if reach then reachBack s.uncached else s.uncached) →
      u.engine.state = s.engine.state ∧ u.engine.forceOwed = s.engine.forceOwed ∧ u.engine.cache = [] := by
    rintro u rfl
    cases reach with
    | false => exact ⟨rfl, rfl, rfl⟩
    | true => exact reachBack_keeps s.uncached
  obtain ⟨hstate, howed, hcache⟩ := hkeeps _ rfl
  obtain h | h := h
  · have h' : (s.mapEngine fun e => { e with cache := [] }).engine.state = .waiting := h
    simp only [overlayChanged, h']
    rw [Engine.owed, h]
    exact beginEvaluation_restarted hcache (fun h => absurd h Bool.false_ne_true)
  · have h' : (s.mapEngine fun e => { e with cache := [] }).engine.state = .stalled := h
    simp only [overlayChanged, h']
    rw [Engine.owed, h]
    refine (beginEvaluation_restarted hcache fun h => h).trans ?_
    exact congrArg (fun forced => ((if reach then reachBack s.uncached else s.uncached).mapEngine
      (·.restarted forced))) howed

/-- The state after a reach-back over a text that does not reach past the region's start. -/
theorem overlayChanged_reaches {s : State} {kept region : List Chunk}
    (h : s.engine.state = .waiting ∨ s.engine.state = .stalled) (hchunks : s.engine.chunks = kept ++ region)
    (hregion : reachBackRegion (Config.windowStrokes - s.engine.window.length) s.engine.chunks = region) :
    (region = [] → overlayChanged true s =
      { s with engine := s.engine.restarted s.engine.owed }) ∧
    ∀ first others, region = first :: others →
      (s.stream.length ≤ first.start → overlayChanged true s =
        { s with engine := (s.engine.reached kept first others).restarted s.engine.owed }) ∧
      (first.start < s.stream.length → s.feeds.onHold → overlayChanged true s =
        { s with
          engine := (s.engine.reached kept first others).restarted s.engine.owed
          stream := { s.stream with length := first.start }
          feeds := s.feeds.mapPorts fun _ p => { p with valid := min p.valid first.start } }) := by
  have hbegins := overlayChanged_begins true h
  refine ⟨fun hnone => hbegins.trans ?_, fun first others hsome => ⟨fun hwithin => hbegins.trans ?_,
    fun hpast hhold => hbegins.trans ?_⟩⟩
  · have hback : reachBack s.uncached = s.uncached := reachBack_none (s := s.uncached) (hregion.trans hnone)
    rw [if_pos rfl, hback]
    rfl
  all_goals
    have hback := reachBack_some (s := s.uncached) (hchunks.trans (congrArg (kept ++ ·) hsome)) (hregion.trans hsome)
    rw [if_pos rfl, hback]
  · have hstays : ¬ first.start < s.uncached.stream.length := Nat.not_lt.2 hwithin
    rw [if_neg hstays]
    rfl
  · have hback' : first.start < s.uncached.stream.length := hpast
    rw [if_pos hback']
    exact congrArg (State.mapEngine · (·.restarted s.engine.owed))
      (applyRetract_onHold (s := { s with engine := s.uncached.engine.reached kept first others }) hhold first.start)

/-! ## DEFINE, UNDEFINE and OVERLAY_CLEAR (R53 to R56) -/

/-- A DEFINE's payload (R181). -/
def definePayload (options flags : Byte) (codes : List Code) (text : List Byte) : List Byte :=
  [options, flags, BitVec.ofNat 8 codes.length, BitVec.ofNat 8 text.length] ++
    codes.flatMap (fun c => be24 c.toNat) ++ text

theorem overlayFlagsValid_eq (flags : Byte) :
    overlayFlagsValid flags = (flags &&& 0x82 == 0 && (flags &&& 0x05 == 0x01 || flags &&& 0x05 == 0x04)) := by
  revert flags
  decide

theorem defineValuesOk_iff {count length : Nat} {flags : Byte} {codes : List Nat} {text : List Byte} :
    defineValuesOk count length flags codes text = true ↔
      (1 ≤ count ∧ count ≤ 8) ∧ codes.all validCode = true ∧ length ≤ 48 ∧ text.all textByte = true ∧
        (flags &&& 0x82 = 0 ∧ (flags &&& 0x05 = 0x01 ∨ flags &&& 0x05 = 0x04)) ∧
        ¬ (flags &&& 0x04 ≠ 0 ∧ 0 < length) := by
  simp only [defineValuesOk, overlayFlagsValid_eq, hasFlag, flagSuppress, Bool.and_eq_true, Bool.or_eq_true,
    Bool.not_eq_true', decide_eq_true_eq, beq_iff_eq, and_assoc, ← Bool.not_eq_true, bne_iff_ne]

/-- The bits of HAS_TEXT and SUPPRESS hold HAS_TEXT alone. -/
theorem no_suppress_of_text {flags : Byte} (h : flags &&& 0x05 = 0x01) : flags &&& 0x04 = 0 := by
  revert flags
  decide

theorem define_applies {tag options flags : Byte} {codes : List Code} {text : List Byte} {s : State}
    (h : s.serves tag) (hone : 1 ≤ codes.length) (height : codes.length ≤ 8) (hc : ∀ c ∈ codes, c ≠ 0)
    (hlength : text.length ≤ 48) (htext : ∀ b ∈ text, textByte b = true) (hflags : flags &&& 0x82 = 0)
    (hkind : flags &&& 0x05 = 0x01 ∨ (flags &&& 0x05 = 0x04 ∧ text = [])) :
    exec (.define tag (definePayload options flags codes text)) s =
      .next (applyDefine ⟨kindDefine, tag⟩ (options &&& 0x01 != 0) ⟨codes, flags, text⟩ (s.mapLink Link.withTaken)) := by
  refine (exec_serves h rfl rfl).trans (congrArg Host.Outcome.next ?_)
  have hflag : byteAt (definePayload options flags codes text) 1 = flags := rfl
  have hcount : (byteAt (definePayload options flags codes text) 2).toNat = codes.length := by
    change (BitVec.ofNat 8 codes.length).toNat = _
    rw [BitVec.toNat_ofNat]; omega
  have hbytes : (byteAt (definePayload options flags codes text) 3).toNat = text.length := by
    change (BitVec.ofNat 8 text.length).toNat = _
    rw [BitVec.toNat_ofNat]; omega
  have hfour : (definePayload options flags codes text).drop 4 =
      codes.flatMap (fun c => be24 c.toNat) ++ text := rfl
  have hcodes : ((definePayload options flags codes text).drop 4).take (3 * codes.length) =
      codes.flatMap (fun c => be24 c.toNat) := by
    rw [hfour, ← length_flatMap_be24, List.take_left]
  have hrest : (definePayload options flags codes text).drop (4 + 3 * codes.length) = text := by
    rw [← List.drop_drop, hfour, ← length_flatMap_be24, List.drop_left]
  have hwhole : (definePayload options flags codes text).length = 4 + 3 * codes.length + text.length := by
    simp only [definePayload, List.length_append, length_flatMap_be24]
    rfl
  have hok : defineValuesOk codes.length text.length flags (codes.map (·.toNat)) text = true := by
    refine defineValuesOk_iff.2 ⟨⟨hone, height⟩, all_validCode_toNat hc, hlength, List.all_eq_true.2 htext,
      ⟨hflags, hkind.imp id (·.1)⟩, ?_⟩
    rintro ⟨hsuppress, hsome⟩
    obtain hkindText | ⟨-, hnone⟩ := hkind
    · exact hsuppress (no_suppress_of_text hkindText)
    · rw [hnone] at hsome
      exact absurd hsome (Nat.lt_irrefl 0)
  simp only [askDefine, hflag, hcount, hbytes, hcodes, hrest, hwhole, codesOf_flatMap, hok, toCodes_map_toNat, ne_eq,
    not_true_eq_false, if_false, Bool.not_true, Bool.false_eq_true]
  rfl

theorem answerRefusal {c : Instr} {kind tag : Byte} {code : ReplyCode} {s : State}
    (h : exec c s = .next (answer ⟨kind, tag⟩ code [] (s.mapLink Link.withTaken))) :
    exec c s = .next (s.answering kind tag [replyCodeByte code]) :=
  h.trans (congrArg Host.Outcome.next (answer_taken_answering kind tag code [] s))

theorem define_badLength {tag : Byte} {payload : List Byte} {s : State} (h : s.serves tag)
    (hl : payload.length ≠ 4 + 3 * (payload.getD 2 0).toNat + (payload.getD 3 0).toNat) :
    exec (.define tag payload) s = .next (s.answering 0x0B tag [0x04]) :=
  answerRefusal (kind := kindDefine) (code := .badLength)
    ((exec_serves h rfl rfl).trans (congrArg Host.Outcome.next (if_pos hl)))

theorem define_badValue {tag : Byte} {payload : List Byte} {s : State} (h : s.serves tag)
    (hl : payload.length = 4 + 3 * (payload.getD 2 0).toNat + (payload.getD 3 0).toNat)
    (hbad : defineValuesOk (payload.getD 2 0).toNat (payload.getD 3 0).toNat (payload.getD 1 0)
      (codesOf ((payload.drop 4).take (3 * (payload.getD 2 0).toNat)))
      (payload.drop (4 + 3 * (payload.getD 2 0).toNat)) ≠ true) :
    exec (.define tag payload) s = .next (s.answering 0x0B tag [0x05]) :=
  answerRefusal (kind := kindDefine) (code := .badValue) ((exec_serves h rfl rfl).trans (congrArg Host.Outcome.next
    ((if_neg (Classical.not_not.2 hl)).trans (if_pos ((congrArg (!·) (Bool.eq_false_iff.2 hbad)))))))

theorem textByte_eq_false {b : Byte} (h : (b.toNat < 0x20 ∨ 0x7E < b.toNat) ∧ b ≠ 0x0A) : textByte b ≠ true := by
  intro hallowed
  obtain ⟨hrange, hline⟩ := h
  simp only [textByte, Bool.or_eq_true, Bool.and_eq_true, decide_eq_true_eq, beq_iff_eq, hline, or_false] at hallowed
  omega

/-- One of the values that R53 does not allow is refused. -/
theorem defineValuesOk_bars {payload : List Byte} {strokes length : Nat} {flags : Byte}
    (hl : payload.length = 4 + 3 * strokes + length)
    (h : strokes = 0 ∨ 8 < strokes ∨ 48 < length ∨
      (∃ i < strokes, beValue ((payload.drop (4 + 3 * i)).take 3) = 0 ∨
        0x800000 ≤ beValue ((payload.drop (4 + 3 * i)).take 3)) ∨
      (∃ b ∈ payload.drop (4 + 3 * strokes), (b.toNat < 0x20 ∨ 0x7E < b.toNat) ∧ b ≠ 0x0A) ∨
      flags &&& 0x82 ≠ 0 ∨ flags &&& 0x05 = 0 ∨ flags &&& 0x05 = 0x05 ∨ (flags &&& 0x04 ≠ 0 ∧ 0 < length)) :
    defineValuesOk strokes length flags (codesOf ((payload.drop 4).take (3 * strokes)))
      (payload.drop (4 + 3 * strokes)) ≠ true := by
  intro hok
  obtain ⟨⟨hone, height⟩, hcodes, htextLength, htext, ⟨hflags, hkind⟩, hsuppress⟩ := defineValuesOk_iff.1 hok
  obtain hzero | hmany | hlong | ⟨i, hi, hcode⟩ | ⟨b, hb, hbarred⟩ | hbits | hnone | hboth | hmute := h
  · omega
  · omega
  · omega
  · have hfield : fieldAt ((payload.drop 4).take (3 * strokes)) (3 * i) 3 =
        beValue ((payload.drop (4 + 3 * i)).take 3) := by
      rw [fieldAt, List.drop_take, List.drop_drop, List.take_take, Nat.min_eq_left (by omega)]
    have hbad := all_validCode_eq_false (l := (payload.drop 4).take (3 * strokes)) (n := strokes)
      (by rw [List.length_take, List.length_drop]; omega) hi (by rw [hfield]; exact hcode)
    exact Bool.false_ne_true (hbad.symm.trans hcodes)
  · exact textByte_eq_false hbarred (List.all_eq_true.1 htext b hb)
  · exact hbits hflags
  · rw [hnone] at hkind
    exact absurd hkind (by decide)
  · rw [hboth] at hkind
    exact absurd hkind (by decide)
  · exact hsuppress hmute

theorem undefine_refuses {tag : Byte} {payload : List Byte} {code : ReplyCode} {s : State}
    (h : s.serves tag) (hs : sequenceField payload = .error code) :
    exec (.undefine tag payload) s = .next (s.answering 0x0C tag [replyCodeByte code]) := by
  refine answerRefusal ((exec_serves h rfl rfl).trans (congrArg Host.Outcome.next ?_))
  simp only [askUndefine, hs]
  rfl

theorem undefine_sequence {tag : Byte} {payload : List Byte} {codes : List Code} {s : State}
    (h : s.serves tag) (hs : sequenceField payload = .ok codes) :
    exec (.undefine tag payload) s = .next (
      if !(s.dict.overlay.any fun x => x.sequence == codes) then
        answer ⟨kindUndefine, tag⟩ .notFound [] (s.mapLink Link.withTaken)
      else runBlocks (answer ⟨kindUndefine, tag⟩ .ok
        (be16 (s.dict.overlay.filter fun x => x.sequence != codes).length)
        (changeOverlay (s.dict.overlay.filter fun x => x.sequence != codes) false (s.mapLink Link.withTaken)))) := by
  refine (exec_serves h rfl rfl).trans (congrArg Host.Outcome.next ?_)
  simp only [askUndefine, hs]
  rfl

/-- The state in which a change of the overlay reaches the engine: its request is taken. -/
def State.overlaid (s : State) (overlay : List OverlayEntry) : State :=
  (s.mapLink Link.withTaken).mapDict fun d => { d with overlay := overlay }

/-- The reply to a change of the overlay is queued in the state that the engine leaves. -/
theorem changed_goesOn {c : Instr} {kind tag : Byte} {fields : List Byte} {overlay : List OverlayEntry}
    {reach : Bool} {s u : State}
    (h : exec c s = .next (runBlocks (answer ⟨kind, tag⟩ .ok fields
      (changeOverlay overlay reach (s.mapLink Link.withTaken)))))
    (hu : overlayChanged reach (s.overlaid overlay) = u) :
    exec c s = .next (runBlocks { u with link := u.link.withReply u.now kind tag ([0x00] ++ fields) }) :=
  h.trans (congrArg (fun t => Host.Outcome.next (runBlocks t))
    ((congrArg (answer ⟨kind, tag⟩ .ok fields) hu).trans (answer_eq _ _ _ u)))

/-- What a change of the overlay leaves alone, whatever the engine does with it. -/
theorem overlaid_frame (overlay : List OverlayEntry) (reach : Bool) (kind tag : Byte) (fields : List Byte)
    (s : State) :
    let t := runBlocks (answer ⟨kind, tag⟩ .ok fields (changeOverlay overlay reach (s.mapLink Link.withTaken)))
    t.device = s.device ∧ t.keys = s.keys ∧ t.params = s.params ∧ t.dict.overlay = overlay := by
  intro t
  have hbase : t.base = (s.overlaid overlay).base :=
    (runBlocks_base _).trans (base_of_outside
      ((answer_outside ..).trans (changeOverlay_outside overlay reach (s.mapLink Link.withTaken))))
  obtain ⟨henv, hkeys, hparams, hoverlay⟩ := base_eq.1 hbase
  obtain ⟨hdevice, -, -, -⟩ := env_eq.1 henv
  exact ⟨hdevice, hkeys, hparams, hoverlay⟩

/-- Settles O25. -/
theorem overlayRequestsChangeTheOverlay : Obligations.OverlayRequestsChangeTheOverlay := by
  refine ⟨?_, ?_⟩
  · intro tag options flags codes text s hs hone height hc hlength htext hflags hkind sequence define undefine held
      entry added removed changes
    have hdefine := define_applies (options := options) hs hone height hc hlength htext hflags hkind
    have hundefine := undefine_sequence hs (sequenceField_ok hone height hc)
    have changed {c : Instr} {reach : Bool} {overlay : List OverlayEntry} {kind : Byte} {fields : List Byte}
        (h : exec c s = .next (runBlocks (answer ⟨kind, tag⟩ .ok fields
          (changeOverlay overlay reach (s.mapLink Link.withTaken))))) : changes c reach overlay kind fields := by
      obtain ⟨hdevice, hkeys, hparams, hoverlay⟩ := overlaid_frame overlay reach kind tag fields s
      refine ⟨⟨_, h, hoverlay, hdevice, hkeys, hparams⟩, fun hq hrest => ?_,
        fun hrun => changed_goesOn h (overlayChanged_evaluating (s := s.overlaid overlay) reach hrun),
        fun hstate => ⟨fun hreach => ?_, fun hreach => ?_⟩⟩
      · refine (changed_goesOn h (overlayChanged_resting (s := s.overlaid overlay) reach hrest)).trans ?_
        exact congrArg Host.Outcome.next (runBlocks_same (s := s) hq rfl rfl rfl rfl rfl rfl rfl)
      · subst hreach
        exact changed_goesOn h (overlayChanged_begins (s := s.overlaid overlay) false hstate)
      · intro kept region strokes room hchunks hopen hfits hlast
        subst hreach
        have hregion : reachBackRegion (Config.windowStrokes - s.engine.window.length) s.engine.chunks = region :=
          hchunks ▸ reachBackRegion_append hopen hfits kept hlast
        obtain ⟨hnone, hsome⟩ := overlayChanged_reaches (s := s.overlaid overlay) hstate hchunks hregion
        refine ⟨fun hempty => changed_goesOn h (hnone hempty), fun first others hfirst => ?_⟩
        obtain ⟨hwithin, hpast⟩ := hsome first others hfirst
        subst hfirst
        exact ⟨fun hle => changed_goesOn h (hwithin hle),
          fun hlt hA hB hC => changed_goesOn h (hpast hlt ⟨hA, hB, hC⟩)⟩
    refine ⟨fun hroom => ?_, fun hnew hfull => ?_, fun hheld => ?_, fun hnew => ?_, ?_⟩
    · have hfits : ¬ (!(s.dict.overlay.any fun x => x.sequence == codes) &&
          Config.overlayEntries ≤ s.dict.overlay.length) = true := by
        rw [Bool.and_eq_true, Bool.not_eq_true', decide_eq_true_eq]
        rintro ⟨hnew, hfull⟩
        obtain hheld | hless := hroom
        · exact Bool.false_ne_true (hnew.symm.trans hheld)
        · exact absurd hfull (Nat.not_le.2 hless)
      exact changed (hdefine.trans (congrArg Host.Outcome.next (if_neg hfits)))
    · have hnone : (!(s.dict.overlay.any fun x => x.sequence == codes) &&
          Config.overlayEntries ≤ s.dict.overlay.length) = true := by
        rw [Bool.and_eq_true, Bool.not_eq_true', decide_eq_true_eq]
        exact ⟨hnew, hfull⟩
      exact answerRefusal (kind := kindDefine) (code := .full)
        (hdefine.trans (congrArg Host.Outcome.next (if_pos hnone)))
    · have hfound : ¬ (!s.dict.overlay.any fun x => x.sequence == codes) = true :=
        fun h => Bool.false_ne_true ((congrArg (!·) hheld).symm.trans h)
      exact changed (hundefine.trans (congrArg Host.Outcome.next (if_neg hfound)))
    · exact answerRefusal (kind := kindUndefine) (code := .notFound)
        (hundefine.trans (congrArg Host.Outcome.next (if_pos (congrArg (!·) hnew))))
    · exact changed (exec_serves (owner := askOverlayClear) (payload := []) hs rfl rfl)
  · intro tag payload s hs flags strokes length sequence barred barredText
    exact ⟨define_badLength hs, fun hl hbad => define_badValue hs hl (defineValuesOk_bars hl hbad),
      fun hl => undefine_refuses hs (sequenceField_badLength hl),
      fun hl hbad => undefine_refuses hs (sequenceField_badValue hl hbad)⟩

end Sys2Proof.Machine
end

section
/-! PROOFS. The joining of text (R67 to R70) and the evaluation of one stroke that the overlay decides. -/

namespace Sys2Proof.Machine

/-! ## Joined chunks -/

/-- What is resolved is joined one by one, each piece where those before it end, under the carry they leave. -/
theorem joinAll_getElem (isOpen : Bool) :
    ∀ (rs : List Resolved) (carry : Carry) (p i : Nat) (r : Resolved), rs[i]? = some r →
      (joinAll isOpen carry p rs)[i]? = some
        (joinChunk r.kind r.strokes none r.flags r.raw isOpen
          ((((joinAll isOpen carry p rs).take i).getLast?.map (·.carryOut)).getD carry)
          (p + ((((joinAll isOpen carry p rs).take i).map (·.text)).flatten).length))
  | r :: _, carry, p, 0, r', h => by
    obtain rfl : r = r' := Option.some.inj h
    rfl
  | r :: rest, carry, p, i + 1, r', h => by
    have hrest := joinAll_getElem isOpen rest
      (joinChunk r.kind r.strokes none r.flags r.raw isOpen carry p).carryOut
      (joinChunk r.kind r.strokes none r.flags r.raw isOpen carry p).stop i r' h
    rw [joinAll, List.getElem?_cons_succ, hrest, List.take_succ_cons, List.getLast?_cons, List.map_cons,
      List.flatten_cons, List.length_append, ← Nat.add_assoc]
    cases ((joinAll isOpen (joinChunk r.kind r.strokes none r.flags r.raw isOpen carry p).carryOut
      (joinChunk r.kind r.strokes none r.flags r.raw isOpen carry p).stop rest).take i).getLast? <;> rfl

/-- A field that joining takes over unchanged is that of what was resolved, in order. -/
theorem joinAll_map {α : Type} (isOpen : Bool) (f : Chunk → α) (g : Resolved → α)
    (h : ∀ (r : Resolved) (carry : Carry) (p : Nat),
      f (joinChunk r.kind r.strokes none r.flags r.raw isOpen carry p) = g r) :
    ∀ (rs : List Resolved) (carry : Carry) (p : Nat), (joinAll isOpen carry p rs).map f = rs.map g
  | [], _, _ => rfl
  | r :: rest, carry, p => by
    rw [joinAll, List.map_cons, List.map_cons, h, joinAll_map isOpen f g h rest]

theorem joinAll_length (isOpen : Bool) (carry : Carry) (p : Nat) (rs : List Resolved) :
    (joinAll isOpen carry p rs).length = rs.length := by
  have h := congrArg List.length (joinAll_map isOpen (fun _ => ()) (fun _ => ()) (fun _ _ _ => rfl) rs carry p)
  rwa [List.length_map, List.length_map] at h

/-- The capital owed is given to a lower-case letter (R67). -/
theorem joinedText_cons (kind : ChunkKind) (flags b : Byte) (rest : List Byte) (carry : Carry) (p : Nat) :
    joinedText kind flags (b :: rest) carry p =
      (if p = 0 then [] else if hasFlag flags flagParagraph then [0x0A]
        else if carry.attach || hasFlag flags flagAttachBefore then [] else [0x20]) ++
      (if carry.cap = true ∧ kind ≠ .untranslate ∧ 0x61 ≤ b.toNat ∧ b.toNat ≤ 0x7A then b - 0x20 else b) :: rest := by
  simp only [joinedText, Bool.and_eq_true, bne_iff_ne, decide_eq_true_eq, and_assoc]

theorem joinedText_nil (kind : ChunkKind) (flags : Byte) (carry : Carry) (p : Nat) :
    joinedText kind flags [] carry p = if p ≠ 0 ∧ hasFlag flags flagParagraph = true then [0x0A] else [] := by
  simp only [joinedText]
  split <;> simp_all

/-- The carry-out of a contribution with text (R68). -/
theorem carryOut_cons (kind : ChunkKind) (flags b : Byte) (rest : List Byte) (carry : Carry) :
    carryOut kind flags (b :: rest) carry =
      ⟨kind != .untranslate && (hasFlag flags flagAttachAfter || hasFlag flags flagParagraph),
        if kind = .untranslate then carry.cap else hasFlag flags flagCapNext⟩ := by
  by_cases h : kind = .untranslate <;> simp [carryOut, h]

theorem carryOut_nil (kind : ChunkKind) (flags : Byte) (carry : Carry) :
    carryOut kind flags [] carry =
      ⟨carry.attach || hasFlag flags flagAttachAfter || hasFlag flags flagParagraph,
        carry.cap || hasFlag flags flagCapNext⟩ := by
  simp only [carryOut, Bool.or_assoc]

/-- Each joined chunk as R67 to R70 give it. -/
theorem joinAll_follow (isOpen : Bool) (carry : Carry) (p : Nat) (rs : List Resolved) (i : Nat) (c : Chunk)
    (h : (joinAll isOpen carry p rs)[i]? = some c) :
    ∃ r, rs[i]? = some r ∧ c = joinChunk r.kind r.strokes none r.flags r.raw isOpen
      ((((joinAll isOpen carry p rs).take i).getLast?.map (·.carryOut)).getD carry)
      (p + ((((joinAll isOpen carry p rs).take i).map (·.text)).flatten).length) := by
  obtain ⟨hi, -⟩ := List.getElem?_eq_some_iff.1 h
  rw [joinAll_length] at hi
  refine ⟨rs[i], List.getElem?_eq_getElem hi, Option.some.inj (h.symm.trans ?_)⟩
  exact joinAll_getElem isOpen rs carry p i rs[i] (List.getElem?_eq_getElem hi)

/-! ## The evaluation of one stroke that the overlay decides -/

/-- With no layer enabled the overlay alone answers (R36, R47). -/
theorem consult_disabled {d : Dict} (h : ∀ i, (d.layer i).enable = false) (codes : List Code) (r : LookupResult) :
    ∀ layers, consult d codes r layers = .done r
  | [] => rfl
  | i :: rest => by
    have hout : (d.layer i).admitted = false := by rw [Layer.admitted, h i]; rfl
    rw [consult, hout, consult_disabled h codes r rest]
    split <;> rfl

theorem overlayAnswer_text {overlay : List OverlayEntry} {codes : List Code} {e : OverlayEntry}
    (hm : overlayMatch overlay codes = some e) (hkind : e.flags &&& 0x05 = 0x01) :
    ∃ continuation, overlayAnswer overlay codes = ⟨.text (e.flags &&& 0x78) e.text, continuation, false⟩ := by
  have hbits : hasFlag e.flags flagSuppress = false ∧ hasFlag e.flags flagHasText = true := by
    have hall : ∀ flags : Byte, flags &&& 0x05 = 0x01 →
        hasFlag flags flagSuppress = false ∧ hasFlag flags flagHasText = true := by decide
    exact hall e.flags hkind
  obtain ⟨hsuppress, htext⟩ := hbits
  refine ⟨overlayContinues overlay codes || hasFlag e.flags flagPrefix, ?_⟩
  simp only [overlayAnswer, hm, LookupResult.matched, hsuppress, htext]
  rfl

/-- An evaluation over one stroke whose lookup gives text resolves it, and has no stroke left to parse. -/
theorem evaluateOn_single {d : Dict} {w : StrokeEntry} {flags : Byte} {text : List Byte} {continuation : Bool}
    (hlookup : beginLookup d [w.code] = .done ⟨.text flags text, continuation, false⟩) :
    evaluateOn d 0 ⟨EvalRun.begin true [w], []⟩ = .done
      ⟨{ forced := true, work := [], resolved := [⟨.entry, [w], flags, text⟩], cut := false, parsing := true
         answers := [([w.code], ⟨.text flags text, continuation, false⟩)] },
        [([w.code], ⟨.text flags text, continuation, false⟩)]⟩ [] := by
  have hneed : need d ⟨EvalRun.begin true [w], []⟩ [w.code] = .done
      (EvalContext.arrive ⟨EvalRun.begin true [w], []⟩ [w.code] ⟨.text flags text, continuation, false⟩)
      ⟨.text flags text, continuation, false⟩ := by
    have hshort : ¬ Config.longestEntry < [w.code].length := Nat.not_lt.2 (show 1 ≤ 8 by omega)
    refine (if_neg hshort).trans ?_
    simp only [EvalRun.begin, findAnswer, List.find?_nil, Option.map_none, hlookup]
  have hlongest : longestText d [w] 1 ⟨EvalRun.begin true [w], []⟩ = .done
      (EvalContext.arrive ⟨EvalRun.begin true [w], []⟩ [w.code] ⟨.text flags text, continuation, false⟩)
      (some (1, ⟨.text flags text, continuation, false⟩)) := by
    have hcodes : codesOfFirst 1 [w] = [w.code] := rfl
    simp only [longestText, Nat.zero_add, hcodes, hneed]
    rfl
  have hresolve : resolve d 0 1 ⟨EvalRun.begin true [w], []⟩ = .done
      ⟨{ forced := true, work := [], resolved := [⟨.entry, [w], flags, text⟩], cut := false, parsing := false
         answers := [([w.code], ⟨.text flags text, continuation, false⟩)] },
        [([w.code], ⟨.text flags text, continuation, false⟩)]⟩ () := by
    have hheld : heldBack d ⟨EvalRun.begin true [w], []⟩ = .done ⟨EvalRun.begin true [w], []⟩ false := rfl
    have hwork : (EvalRun.begin true [w]).work = [w] := rfl
    have hmin : min [w].length Config.longestEntry = 1 := rfl
    simp only [resolve, hheld, hwork, hmin, hlongest]
    rfl
  have hlength : (EvalContext.run ⟨EvalRun.begin true [w], []⟩).work.length = 1 := rfl
  simp only [evaluateOn, hlength, hresolve]
  rfl

theorem commonFront_self : ∀ bs : List Byte, commonFront bs bs = bs.length
  | [] => rfl
  | b :: bs => by rw [commonFront, if_pos rfl, commonFront_self bs]; rfl

/-- A text that stands already is not edited (R72). -/
theorem handEdits_same (start : Nat) (text : List Byte) (s : State) : handEdits start text text s = s := by
  simp only [handEdits, commonFront_self, Nat.lt_irrefl, if_false]

/-- The settle test stops at an OPEN chunk (R108). -/
theorem settleTest_open {s : State} {c : Chunk} {rest : List Chunk} (hchunks : s.engine.chunks = c :: rest)
    (h : c.isOpen = true) : settleTest s = s := by
  have hnot : qualifies s c = false := by rw [qualifies, h]; rfl
  rw [settleTest, hchunks, settleFrom, hnot]
  rfl

/-- The chunks that an evaluation adds with no mark held and no close in hand are those it joins (R71). -/
theorem finishChunks_joined {s : State} {r : EvalRun} (hheld : s.engine.heldMark = none)
    (hclose : s.engine.closeMark = false) :
    finishChunks s r =
      ⟨s.engine.chunks ++ joinAll (0 < s.params.depth) s.engine.carry s.engine.resolvedEnd r.resolved,
        joinAll (0 < s.params.depth) s.engine.carry s.engine.resolvedEnd r.resolved, none, false, false⟩ := by
  simp only [finishChunks, hheld, hclose, Bool.and_false, Bool.false_and, Bool.false_eq_true, if_false]

/-- With nothing owed and room in the window the engine waits after an evaluation (R71). -/
theorem nextAfter_waiting {f : Finish} {s : State} (hre : s.engine.reevaluationPending = false)
    (hmark : f.markOwed = false) (hclose : f.closeStep = false) (hroom : s.engine.window.length < 24) :
    nextAfter f false s = s.mapEngine fun e => { e with state := .waiting } := by
  have hfits : ¬ Config.windowStrokes ≤ s.engine.window.length := Nat.not_le.2 hroom
  simp only [nextAfter, hre, hmark, hclose, hfits, Bool.false_and, Bool.or_self, Bool.false_eq_true,
    if_false]

/-- The engine with one chunk joined, its window empty and its text standing as it was. -/
def Engine.joined (e : Engine) (c : Chunk) : Engine :=
  { e with
    state := .waiting, window := [], chunks := [c], tail := [], timerDue := none, forceOwed := false, run := none
    carry := c.carryOut, resolvedEnd := c.stop, cache := [] }

/-- The end of an evaluation that has resolved its one piece, whose text stands already as the tail. -/
theorem endEvaluation_joined {s : State} {r : EvalRun} {piece : Resolved} {c : Chunk}
    (hc : c = joinChunk piece.kind piece.strokes none piece.flags piece.raw true s.engine.carry s.engine.resolvedEnd)
    (hpiece : r.resolved = [piece]) (hwork : r.work = []) (hcut : r.cut = false) (hheld : s.engine.heldMark = none)
    (hclose : s.engine.closeMark = false) (hre : s.engine.reevaluationPending = false)
    (hdepth : 0 < s.params.depth) (hchunks : s.engine.chunks = []) (htail : s.engine.tail = c.text)
    (hcache : trimCache s.engine.cache [] = []) :
    endEvaluation r [] s = { s with engine := s.engine.joined c } := by
  have hjoined : joinAll (0 < s.params.depth) s.engine.carry s.engine.resolvedEnd r.resolved = [c] := by
    rw [decide_eq_true hdepth, hpiece, hc]
    rfl
  have hfinish : finishChunks s r = ⟨[c], [c], none, false, false⟩ := by
    rw [finishChunks_joined hheld hclose, hjoined, hchunks]
    rfl
  have hedits (t : State) : handEdits s.engine.resolvedEnd s.engine.tail ([c.text].flatten ++ []) t = t := by
    rw [htail, List.append_nil, List.flatten_singleton]
    exact handEdits_same _ _ t
  simp only [endEvaluation, hfinish, joinAll, List.map_cons, List.map_nil, List.flatten_nil, hedits, hwork, hcut]
  rw [settleTest_open (c := c) (rest := []) rfl (by rw [hc]; rfl)]
  refine Eq.trans (nextAfter_waiting ?_ ?_ ?_ ?_) ?_
  · exact hre
  · rfl
  · rfl
  · exact Nat.zero_lt_succ 23
  simp only [State.mapEngine, Engine.joined, hcache, hheld, Option.isSome_none, Bool.or_self, Bool.and_false]
  rfl

/-- What the engine holds after its one stroke is joined lets every block wait. -/
theorem quiet_joined {s : State} (hq : s.quiet) (hwindow : s.engine.window.length < 24)
    (hstate : s.engine.state = .waiting) (hclose : s.engine.closeMark = false) (c : Chunk) :
    { s with engine := s.engine.joined c }.quiet := by
  obtain ⟨⟨-, htake, -, hjournal, habort⟩, hhead, hgrant⟩ := (quiet_iff s).1 hq
  refine (quiet_iff _).2 ⟨⟨?_, ?_, ?_, ?_, ?_⟩, ?_, ?_⟩
  · exact (evaluationStep_none _).2 (.inl rfl)
  · exact (takeStep_none _).2 fun _ _ => (takeStep_none s).1 htake hstate hwindow
  · exact (drainStep_none _).2 fun h => Bool.false_ne_true (hclose.symm.trans h.2.1)
  · exact (journalStep_congr (s := s) (t := { s with engine := s.engine.joined c }) rfl rfl rfl).2 hjournal
  · exact (abortStep_none _).2 ((abortStep_none s).1 habort)
  · exact (headStep_none _).2 ((headStep_none s).1 hhead)
  · exact (grantStep_none _).2 ((grantStep_none s).1 hgrant)

/-- Settles O28. -/
theorem joinedChunksFollowOneAnother : Obligations.JoinedChunksFollowOneAnother := by
  refine ⟨?_, ?_⟩
  · intro isOpen carry p rs cs
    refine ⟨joinAll_length isOpen carry p rs, fun i c hi => ?_, fun i c r hi hr => ?_,
      joinAll_map isOpen _ _ (fun _ _ _ => rfl) rs carry p, joinAll_map isOpen _ _ (fun _ _ _ => rfl) rs carry p⟩
    · obtain ⟨r, -, hc⟩ := joinAll_follow isOpen carry p rs i c hi
      rw [hc]
      exact ⟨rfl, rfl, rfl, rfl⟩
    · obtain ⟨r', hr', hc⟩ := joinAll_follow isOpen carry p rs i c hi
      obtain rfl : r' = r := Option.some.inj (hr'.symm.trans hr)
      intro has separator capital
      have hraw (raw : List Byte) (h : r'.raw = raw) :
          c.text = joinedText r'.kind r'.flags raw c.carryIn c.start ∧
          c.carryOut = carryOut r'.kind r'.flags raw c.carryIn := by
        rw [hc, ← h]
        exact ⟨rfl, rfl⟩
      refine ⟨congrArg Chunk.flags hc, fun b rest hcons => ?_, fun hnil => ?_⟩
      · obtain ⟨htext, hout⟩ := hraw _ hcons
        rw [hout, carryOut_cons]
        exact ⟨htext.trans (joinedText_cons ..), rfl, rfl⟩
      · obtain ⟨htext, hout⟩ := hraw _ hnil
        rw [hout, carryOut_nil]
        exact ⟨htext.trans (joinedText_nil ..), rfl, rfl⟩
  · intro s w e due hq hok hstate hdue hover hwindow hchunks hcache hheld hclose hre hlookup hlayers hdepth he hseq
      hkind cs htail
    have hexec : exec .forcedResolutionExpiry s = .next (runBlocks (timerExpired s)) :=
      if_pos ((Option.any_eq_true _ _).2 ⟨due, hdue, decide_eq_true hover⟩)
    obtain ⟨continuation, hanswer⟩ := overlayAnswer_text (hseq ▸ overlayMatch_of_mem hok.2 he) hkind
    have hlooked : beginLookup s.dict [w.code] = .done ⟨.text (e.flags &&& 0x78) e.text, continuation, false⟩ :=
      hanswer ▸ consult_disabled hlayers _ _ _
    obtain ⟨r, hr⟩ : ∃ r : EvalRun, r =
      { forced := true, work := [], resolved := [⟨.entry, [w], e.flags &&& 0x78, e.text⟩], cut := false,
        parsing := true, answers := [([w.code], ⟨.text (e.flags &&& 0x78) e.text, continuation, false⟩)] } := ⟨_, rfl⟩
    have hexpired : timerExpired s = { s with engine := { s.engine with
        state := .evaluating, timerDue := none, forceOwed := true, run := some (EvalRun.begin true [w]) } } := by
      have hwaiting : (s.mapEngine fun e => { e with timerDue := none }).engine.state = .waiting := hstate
      simp only [timerExpired, hwaiting]
      simp only [beginEvaluation, Engine.beginEvaluation, State.mapEngine, hwindow, Bool.or_true]
    have hadvance : evaluationStep (timerExpired s) = some (endEvaluation r [] { s with engine := { s.engine with
        state := .evaluating, timerDue := none, forceOwed := true, run := some r
        cache := [([w.code], ⟨.text (e.flags &&& 0x78) e.text, continuation, false⟩)] } }) := by
      rw [hexpired]
      simp only [evaluationStep, hlookup, advanceEvaluation, hchunks, hcache, List.length_nil,
        evaluateOn_single hlooked, ← hr]
      rfl
    let c := joinChunk .entry [w] none (e.flags &&& 0x78) e.text true s.engine.carry s.engine.resolvedEnd
    have htext : s.engine.tail = c.text := htail.trans (List.append_nil _)
    have hend : endEvaluation r [] { s with engine := { s.engine with
        state := .evaluating, timerDue := none, forceOwed := true, run := some r
        cache := [([w.code], ⟨.text (e.flags &&& 0x78) e.text, continuation, false⟩)] } } =
        { s with engine := s.engine.joined c } := by
      subst hr
      exact endEvaluation_joined (piece := ⟨.entry, [w], e.flags &&& 0x78, e.text⟩) rfl rfl rfl rfl hheld hclose hre
        hdepth hchunks htext rfl
    have hstep : internalStep (timerExpired s) = some { s with engine := s.engine.joined c } := by
      rw [internalStep, hadvance, hend]
      rfl
    have hquiet : { s with engine := s.engine.joined c }.quiet :=
      quiet_joined hq (by rw [hwindow]; exact Nat.succ_lt_succ (Nat.zero_lt_succ 22)) hstate hclose c
    refine hexec.trans (congrArg Host.Outcome.next (((cascade_step 4095 hstep).trans (cascade_quiet hquiet _)).trans ?_))
    have hstop : c.stop = s.engine.resolvedEnd + ((cs.map (·.text)).flatten).length :=
      congrArg (s.engine.resolvedEnd + ·) (congrArg List.length (List.append_nil c.text)).symm
    simp only [Engine.joined, hstop, hstate, hcache]
    rfl

end Sys2Proof.Machine
end

section
/-! PROOFS. JOURNAL_SEEK, JOURNAL_READ and JOURNAL_ERASE at the memory port (R154 to R156, R176). -/

namespace Sys2Proof.Machine

/-- A request whose item is answered when it begins, with nothing asked of the device. -/
theorem runBlocks_request_ends {s : State} {i : LinkItem} {kind tag : Byte} {code : ReplyCode} {fields : List Byte}
    (hq : s.quiet) (hf : s.portFree) (hx : i.isExport = false ∨ s.journal.scan = none)
    (hb : beginItem i { s with
        link := s.link.withTaken, port := { s.port with items := [i], headBegun := true } } =
      reply kind tag code fields (popItem { s with
        link := s.link.withTaken, port := { s.port with items := [i], headBegun := true } })) :
    runBlocks (pushItem i (s.mapLink Link.withTaken)) = s.answering kind tag (replyCodeByte code :: fields) := by
  obtain ⟨-, -, hitems, hbegun, -⟩ := hf
  have hport : { s.port with items := [], headBegun := false } = s.port := by rw [← hitems, ← hbegun]
  have hpush : (pushItem i (s.mapLink Link.withTaken)).mapPort (fun p => { p with headBegun := true }) =
      { s with link := s.link.withTaken, port := { s.port with items := [i], headBegun := true } } := by
    simp only [pushItem, State.mapPort, State.mapLink, hitems]
    rfl
  have hend : reply kind tag code fields (popItem { s with
      link := s.link.withTaken, port := { s.port with items := [i], headBegun := true } }) =
      s.answering kind tag (replyCodeByte code :: fields) := by
    rw [reply_eq]
    exact congrArg (fun p => { s with port := p, link := s.answered kind tag (replyCodeByte code :: fields) }) hport
  have hstep := internalStep_head (s := pushItem i (s.mapLink Link.withTaken)) (i := i) (rest := [])
    (blocksWait_same (quiet_blocksWait hq) rfl rfl rfl rfl rfl rfl) hbegun
    (by simp only [pushItem, State.mapPort, State.mapLink, hitems]; rfl) hx
  rw [hpush, hb, hend] at hstep
  have hbound : cascadeBound = 4095 + 1 := rfl
  rw [runBlocks, hbound, cascade_step _ hstep]
  exact cascade_quiet ((quiet_congr (s := s) (t := s.answering kind tag (replyCodeByte code :: fields))
    rfl rfl rfl rfl rfl rfl rfl).2 hq) _

theorem beValue_four (b3 b2 b1 b0 : Byte) :
    beValue [b3, b2, b1, b0] = b3.toNat * 16777216 + b2.toNat * 65536 + b1.toNat * 256 + b0.toNat := by
  simp only [beValue, List.foldl_cons, List.foldl_nil]
  omega

/-! ## JOURNAL_SEEK (R154) -/

theorem askJournalSeek_eq (tag j1 j0 q3 q2 q1 q0 : Byte) (s : State) :
    askJournalSeek ⟨kindJournalSeek, tag⟩ [j1, j0, q3, q2, q1, q0] s =
      if s.journal.scan.isSome then answer ⟨kindJournalSeek, tag⟩ .busy [] s
      else if j1.toNat * 256 + j0.toNat = 0 then answer ⟨kindJournalSeek, tag⟩ .badValue [] s
      else runBlocks (pushItem (.journalSeek tag (j1.toNat * 256 + j0.toNat)
        (q3.toNat * 16777216 + q2.toNat * 65536 + q1.toNat * 256 + q0.toNat) 0 0 false []) s) := by
  have hjob : fieldAt [j1, j0, q3, q2, q1, q0] 0 2 = j1.toNat * 256 + j0.toNat := beValue_two j1 j0
  have hseq : fieldAt [j1, j0, q3, q2, q1, q0] 2 4 =
      q3.toNat * 16777216 + q2.toNat * 65536 + q1.toNat * 256 + q0.toNat := beValue_four q3 q2 q1 q0
  simp only [askJournalSeek, hjob, hseq]

/-! ## JOURNAL_READ (R155) -/

/-- A journal read at the append point stops there (R155). -/
theorem exportNext_stops {s : State} (hop : s.journal.op = .waiting)
    (hcurrent : s.journal.current = some s.journal.cursorSector)
    (hslot : s.journal.appendPoint ≤ s.journal.cursorSlot) (tag : Byte) (wanted : Nat) (got : List (List Byte)) :
    exportNext tag wanted got s = exportReply tag .ok got s := by
  have hat : s.journal.atAppendPoint = true := by
    simp only [Journal.atAppendPoint, Journal.exportLimit, Journal.openingSector, hop, hcurrent, BEq.rfl, Bool.true_and]
    exact decide_eq_true hslot
  have hmove : s.mapJournal Journal.moveCursor = s := by
    have hstay : s.journal.moveCursor = s.journal := if_pos (.inl hat)
    rw [State.mapJournal, hstay]
  have hstops : s.journal.exportStops = true := by rw [Journal.exportStops, hat]; rfl
  simp only [exportNext, hmove, hstops, or_true, if_true]

/-- A journal read whose cursor stands on a slot of a sector with a serial, off the current one, reads it (R155). -/
theorem exportNext_reads {s : State} (hcurrent : s.journal.current ≠ some s.journal.cursorSector)
    (hslot : s.journal.cursorSlot < 128) (hserial : (s.journal.row s.journal.cursorSector).serial ≠ none)
    (tag : Byte) {wanted : Nat} {got : List (List Byte)} (hmore : got.length < wanted) :
    exportNext tag wanted got s =
      requestLink (.read ((s.params.journalBase + s.journal.cursorSector) * 4096 + 32 * s.journal.cursorSlot) 32)
        (setHead (.journalRead tag wanted got) s) := by
  have hoff : s.journal.atAppendPoint = false := by
    rw [Journal.atAppendPoint, beq_eq_false_iff_ne.2 hcurrent]
    rfl
  have hsome : (s.journal.row s.journal.cursorSector).serial.isSome = true := Option.isSome_iff_ne_none.2 hserial
  have hmove : s.mapJournal Journal.moveCursor = s := by
    have hstay : s.journal.moveCursor = s.journal := if_pos (.inr ⟨hslot, hsome⟩)
    rw [State.mapJournal, hstay]
  have hgoes : s.journal.exportStops = false := by
    have hwithin : decide (sectorSlots ≤ s.journal.cursorSlot) = false := decide_eq_false (Nat.not_le.2 hslot)
    rw [Journal.exportStops, hoff, hwithin, ← Option.not_isSome, hsome]
    rfl
  simp only [exportNext, hmove, hgoes, Bool.false_eq_true, or_false, Nat.not_le.2 hmore, if_false, slotAddr_eq]

/-! ## JOURNAL_ERASE (R156) -/

theorem askJournalErase_eq (tag q3 q2 q1 q0 : Byte) (s : State) :
    askJournalErase ⟨kindJournalErase, tag⟩ [q3, q2, q1, q0] s =
      let first := q3.toNat * 256 + q2.toNat
      let count := q1.toNat * 256 + q0.toNat
      if s.job.pendingAny then answer ⟨kindJournalErase, tag⟩ .busy [] s
      else if s.journal.scan.isSome then answer ⟨kindJournalErase, tag⟩ .busy [] s
      else if s.job.running then answer ⟨kindJournalErase, tag⟩ .state [] s
      else if count = 0 ∨ s.params.journalCount < first + count then answer ⟨kindJournalErase, tag⟩ .badValue [] s
      else runBlocks (pushItem
        (.journalErase tag ((List.range count).map fun k => s.params.journalBase + first + k) 0) s) := by
  have hfirst : fieldAt [q3, q2, q1, q0] 0 2 = q3.toNat * 256 + q2.toNat := beValue_two q3 q2
  have hcount : fieldAt [q3, q2, q1, q0] 2 2 = q1.toNat * 256 + q0.toNat := beValue_two q1 q0
  simp only [askJournalErase, hfirst, hcount]

/-- The first of the sectors to erase is erased (R156). -/
theorem eraseNext_head {todo : List Nat} {c : Nat} (h : todo.head? = some c) (tag : Byte) (erased : Nat) (s : State) :
    eraseNext tag todo erased s = requestLink (.erase c) (setHead (.journalErase tag todo erased) s) := by
  cases todo with
  | nil => cases h
  | cons x rest =>
    obtain rfl : x = c := Option.some.inj h
    rfl

theorem pendingAny_eq_true {j : Job} : j.pendingAny = true ↔ j.openPending ≠ none ∨ j.abortPending ≠ none := by
  simp [Job.pendingAny, Option.isSome_iff_ne_none]

/-- Settles O44. -/
theorem journalRequestsReachThePort : Obligations.JournalRequestsReachThePort := by
  intro tag j1 j0 q3 q2 q1 q0 n s hs job seq first count seek read erase free place
  have hseek : exec seek s = .next (askJournalSeek ⟨kindJournalSeek, tag⟩ [j1, j0, q3, q2, q1, q0]
      (s.mapLink Link.withTaken)) := exec_serves hs rfl rfl
  have hread : exec read s = .next (askJournalRead ⟨kindJournalRead, tag⟩ [n] (s.mapLink Link.withTaken)) :=
    exec_serves hs rfl rfl
  have herase : exec erase s = .next (askJournalErase ⟨kindJournalErase, tag⟩ [q3, q2, q1, q0]
      (s.mapLink Link.withTaken)) := exec_serves hs rfl rfl
  have hrefused (kind : Byte) (code : ReplyCode) :
      answer ⟨kind, tag⟩ code [] (s.mapLink Link.withTaken) = s.answering kind tag [replyCodeByte code] :=
    answer_taken_answering kind tag code [] s
  rw [askJournalSeek_eq] at hseek
  rw [askJournalErase_eq] at herase
  refine ⟨fun hscan => ?_, fun hscan => ?_⟩
  · have hbusy : s.journal.scan.isSome = true := Option.isSome_iff_ne_none.2 hscan
    refine ⟨hseek.trans (congrArg Host.Outcome.next ((if_pos hbusy).trans (hrefused kindJournalSeek .busy))),
      hread.trans (congrArg Host.Outcome.next ((if_pos hbusy).trans (hrefused kindJournalRead .busy))),
      herase.trans (congrArg Host.Outcome.next ?_)⟩
    refine Eq.trans ?_ (hrefused kindJournalErase .busy)
    by_cases hpending : s.job.pendingAny = true
    · exact if_pos hpending
    · exact (if_neg hpending).trans (if_pos hbusy)
  · have hidle : ¬ s.journal.scan.isSome = true := by rw [hscan]; exact Bool.false_ne_true
    have hseekPassed (hjob : job ≠ 0) := hseek.trans (congrArg Host.Outcome.next ((if_neg hidle).trans (if_neg hjob)))
    have hreadPassed (hlow : 1 ≤ n.toNat) (hhigh : n.toNat ≤ 7) :=
      hread.trans (congrArg Host.Outcome.next ((if_neg hidle).trans
        (if_neg (show ¬ (n.toNat < 1 ∨ 7 < n.toNat) by omega))))
    have heraseFree (hopen : s.job.openPending = none) (habort : s.job.abortPending = none) :
        ¬ s.job.pendingAny = true := fun h => (pendingAny_eq_true.1 h).elim (· hopen) (· habort)
    have heraseStill (hopen : s.job.openPending = none) (habort : s.job.abortPending = none)
        (hjob : s.job.state = .noJob) :=
      herase.trans (congrArg Host.Outcome.next ((if_neg (heraseFree hopen habort)).trans ((if_neg hidle).trans
        (if_neg (show ¬ s.job.running = true by rw [Job.running, hjob]; exact Bool.false_ne_true)))))
    refine ⟨fun hzero => ?_, fun hjob hfree => ⟨fun hnone => ?_, fun c k later hlist => ?_⟩, fun hbad => ?_,
      fun hlow hhigh hfree => ⟨fun hop hcurrent hslot => ?_, fun hcurrent hslot hserial => ?_⟩, fun hpending => ?_,
      fun hopen habort => ⟨fun hrunning => ?_, fun hjob hbad => ?_, fun hjob hpos hfits hfree => ?_⟩⟩
    · exact hseek.trans (congrArg Host.Outcome.next ((if_neg hidle).trans ((if_pos hzero).trans
        (hrefused kindJournalSeek .badValue))))
    · refine (hseekPassed hjob).trans (congrArg Host.Outcome.next ?_)
      refine runBlocks_request_ends (code := .notFound) (fields := []) hfree.1 hfree.2 (.inr hscan) ?_
      simp only [beginItem, hnone]
      rfl
    · refine (hseekPassed hjob).trans (congrArg Host.Outcome.next ?_)
      refine runBlocks_request_granted hfree.1 hfree.2 (.inr hscan) rfl ?_
      simp only [beginItem, hlist, List.map_cons, seekSector, slotAddr_header]
      rfl
    · exact hread.trans (congrArg Host.Outcome.next ((if_neg hidle).trans ((if_pos hbad).trans
        (hrefused kindJournalRead .badValue))))
    · refine (hreadPassed hlow hhigh).trans (congrArg Host.Outcome.next ?_)
      exact runBlocks_request_ends (code := .ok) hfree.1 hfree.2 (.inr hscan)
        (exportNext_stops (s := { s with
          link := s.link.withTaken, port := { s.port with items := [.journalRead tag n.toNat []], headBegun := true } })
          hop hcurrent hslot tag n.toNat [])
    · refine (hreadPassed hlow hhigh).trans (congrArg Host.Outcome.next ?_)
      exact runBlocks_request_granted hfree.1 hfree.2 (.inr hscan) rfl
        (exportNext_reads (s := { s with
          link := s.link.withTaken, port := { s.port with items := [.journalRead tag n.toNat []], headBegun := true } })
          hcurrent hslot hserial tag hlow)
    · exact herase.trans (congrArg Host.Outcome.next ((if_pos (pendingAny_eq_true.2 hpending)).trans
        (hrefused kindJournalErase .busy)))
    · exact herase.trans (congrArg Host.Outcome.next ((if_neg (heraseFree hopen habort)).trans ((if_neg hidle).trans
        ((if_pos (running_iff.2 hrunning)).trans (hrefused kindJournalErase .state)))))
    · exact (heraseStill hopen habort hjob).trans (congrArg Host.Outcome.next ((if_pos hbad).trans
        (hrefused kindJournalErase .badValue)))
    · have hpasses : ¬ (count = 0 ∨ s.params.journalCount < first + count) := by omega
      refine (heraseStill hopen habort hjob).trans (congrArg Host.Outcome.next ((if_neg hpasses).trans ?_))
      refine runBlocks_request_granted hfree.1 hfree.2 (.inl rfl) rfl ?_
      obtain ⟨more, hmore⟩ : ∃ more, count = more + 1 := ⟨count - 1, by omega⟩
      have hhead : ((List.range count).map fun k => s.params.journalBase + first + k).head? =
          some (s.params.journalBase + first) := by
        rw [hmore, List.range_succ_eq_map]
        rfl
      exact eraseNext_head hhead tag 0 { s with
        link := s.link.withTaken
        port := { s.port with
          items := [.journalErase tag ((List.range count).map fun k => s.params.journalBase + first + k) 0]
          headBegun := true } }

end Sys2Proof.Machine
end

section
/-! PROOFS. The commit of a journal record (R140), and the read-back of a failed copy's VOID (R142, R143). -/

namespace Sys2Proof.Machine

/-! ## What the settle test leaves alone -/

/-- The settle test changes the engine, the stream, the feed unit and the outbound queue; what the stream has been
told by the journal stays. -/
theorem settleFrom_changes (cs : List Chunk) (s : State) :
    ∃ e t f l, settleFrom cs s = { s with engine := e, stream := t, feeds := f, link := l } ∧
      t.durableSeen = s.stream.durableSeen ∧ t.modeSeen = s.stream.modeSeen := by
  induction cs generalizing s with
  | nil => exact ⟨_, _, _, _, rfl, rfl, rfl⟩
  | cons c rest ih =>
    rw [settleFrom_cons]
    split
    · obtain ⟨e, t, f, l, hrest, hdurable, hmode⟩ := ih (settleOldest c s)
      have hstream := (settleOldest_parts c s).1
      obtain ⟨f', l', hfeed⟩ := chooseAll_changes (({ s with
          stream := s.stream.settle c
          engine := ({ s.engine with chunks := s.engine.chunks.drop 1 } : Engine).chunkFreed } : State).mapFeeds fun f =>
        f.mapPorts fun _ p =>
          if p.outrun ((s.stream.settle c).settled - Config.retainedBytes) (s.stream.settle c).settled then
            p.enter .refreshing ((s.stream.settle c).settled - Config.retainedBytes) else p)
      have hsettled : settleOldest c s = _ := hfeed
      rw [hstream] at hdurable hmode
      rw [hsettled] at hrest
      exact ⟨e, t, f, l, hsettled ▸ hrest, hdurable, hmode⟩
    · exact ⟨_, _, _, _, rfl, rfl, rfl⟩

theorem settleTest_changes (s : State) :
    ∃ e t f l, settleTest s = { s with engine := e, stream := t, feeds := f, link := l } ∧
      t.durableSeen = s.stream.durableSeen ∧ t.modeSeen = s.stream.modeSeen :=
  settleFrom_changes s.engine.chunks s

/-! ## The commit (R140) -/

/-- Two states agree on what a commit says of the journal, the ring and the stream. -/
def State.commitsAs (t s : State) : Prop :=
  t.journal.appendPoint = s.journal.appendPoint ∧ t.journal.durable = s.journal.durable ∧
    t.journal.consecutiveFailures = s.journal.consecutiveFailures ∧
    t.stream.durableSeen = s.stream.durableSeen ∧ t.ring = s.ring

theorem modeChanged_commitsAs (m : JournalMode) (s : State) : (modeChanged m s).commitsAs s := by
  obtain ⟨e, t, f, l, h, hdurable, -⟩ := settleTest_changes (s.mapStream fun t => { t with modeSeen := m })
  rw [modeChanged, h]
  exact ⟨rfl, rfl, rfl, hdurable, rfl⟩

theorem enterPassing_commitsAs (cause : JournalCause) (s : State) : (enterPassing cause s).commitsAs s := by
  obtain ⟨happend, hdurable, hfailures, hstream, hring⟩ := modeChanged_commitsAs .passing (raise .journalPassing
    (s.mapJournal fun j => { j with
      mode := .passing, cause := cause, amendments := [], op := .waiting
      rewriteDue := none, jobOpenDue := false }))
  rw [raise_link] at happend hdurable hfailures hstream hring
  rw [enterPassing]
  rw [raise_link]
  exact ⟨happend, hdurable, hfailures, hstream, hring⟩

theorem closeCompletes_commitsAs (summary : List Byte) (s : State) : (closeCompletes summary s).commitsAs s := by
  unfold closeCompletes
  dsimp only
  split
  · rw [reply_eq]; exact ⟨rfl, rfl, rfl, rfl, rfl⟩
  · exact ⟨rfl, rfl, rfl, rfl, rfl⟩

theorem State.commitsAs.trans {u t s : State} (h : u.commitsAs t) (h' : t.commitsAs s) : u.commitsAs s := by
  obtain ⟨happend, hdurable, hfailures, hstream, hring⟩ := h
  obtain ⟨happend', hdurable', hfailures', hstream', hring'⟩ := h'
  exact ⟨happend.trans happend', hdurable.trans hdurable', hfailures.trans hfailures', hstream.trans hstream',
    hring.trans hring'⟩

theorem journalClosed_commitsAs (s : State) : (journalClosed s).commitsAs s :=
  (closeCompletes_commitsAs _ _).trans ((modeChanged_commitsAs .idle _).trans ⟨rfl, rfl, rfl, rfl, rfl⟩)

/-- What a commit does before the work that follows it. -/
def commitFirst (w : RecordWrite) (s : State) : State :=
  let s := durableAdvanced w.record.seq (s.mapJournal fun j =>
    { j with
      appendPoint := w.slot + 1, slotSpent := false, durable := some w.record.seq, consecutiveFailures := 0
      op := .waiting, jobOpenDue := j.jobOpenDue && w.record.kind != .jobOpen })
  if w.record.kind.fromRing then s.mapRing Ring.passJournal else s

/-- The work that follows a commit leaves what the commit did. -/
theorem commitRecord_commitsAs (w : RecordWrite) (s : State) : (commitRecord w s).commitsAs (commitFirst w s) := by
  have hcommit : commitRecord w s =
      if w.record.kind = .jobClose then journalClosed (commitFirst w s)
      else if sectorSlots ≤ w.slot + 1 ∧ (commitFirst w s).journal.nextSector = none ∧
          (commitFirst w s).journal.blankCount = 0 then
        enterPassing .exhausted (commitFirst w s)
      else if (commitFirst w s).journal.amendments.head? = some w.record.seq then
        startCorrect w.sector w.slot (commitFirst w s)
      else commitFirst w s := rfl
  rw [hcommit]
  split
  · exact journalClosed_commitsAs _
  · split
    · exact enterPassing_commitsAs _ _
    · split <;> exact ⟨rfl, rfl, rfl, rfl, rfl⟩

theorem commitFirst_parts (w : RecordWrite) (s : State) :
    (commitFirst w s).journal.appendPoint = w.slot + 1 ∧ (commitFirst w s).journal.durable = some w.record.seq ∧
      (commitFirst w s).journal.consecutiveFailures = 0 ∧
      (commitFirst w s).stream.durableSeen = some w.record.seq ∧
      (commitFirst w s).ring = if w.record.kind.fromRing then s.ring.passJournal else s.ring := by
  obtain ⟨e, t, f, l, h, hdurable, -⟩ := settleTest_changes ((s.mapJournal fun j =>
    { j with
      appendPoint := w.slot + 1, slotSpent := false, durable := some w.record.seq, consecutiveFailures := 0
      op := .waiting, jobOpenDue := j.jobOpenDue && w.record.kind != .jobOpen }).mapStream fun t =>
        { t with durableSeen := some w.record.seq })
  rw [commitFirst, durableAdvanced, h]
  cases w.record.kind.fromRing <;> exact ⟨rfl, rfl, rfl, hdurable, rfl⟩

/-! ## Read-backs of a status byte -/

/-- The READ of the journal's operation in hand ends with its bytes. -/
theorem exec_readComplete_journal {s : State} {addr n deadline : Nat} {flips : List Byte}
    (h : s.port.inFlight = some ⟨.read addr n, .journal, .transfer, deadline, false⟩)
    (hscan : s.journal.scan = none) (habort : s.journal.aborting = false) :
    exec (.readComplete flips) s =
      .next (runBlocks (workOutcome (.success (s.device.got addr n flips)) (s.freed s.device))) := by
  rw [exec_readComplete h, operationEnds_journal rfl rfl]
  exact congrArg (fun t => Host.Outcome.next (runBlocks t)) (journalOutcome_work (s := s.freed s.device) hscan habort _)

theorem workOutcome_check {s : State} {w : RecordWrite} (hop : s.journal.op = .record w .check) (d : Device)
    (bytes : List Byte) :
    workOutcome (.success bytes) (s.freed d) =
      if readsBack statusCommitted bytes then commitRecord w (s.freed d) else recordFailed w (s.freed d) := by
  have hop' : (s.freed d).journal.op = .record w .check := hop
  simp only [workOutcome, hop', recordOutcome]

theorem workOutcome_voided {s : State} {w : RecordWrite} (hop : s.journal.op = .voidRecord w true) (d : Device)
    (bytes : List Byte) :
    workOutcome (.success bytes) (s.freed d) =
      if readsBack statusVoid bytes then recordVoided w (s.freed d) else voidFailed (s.freed d) := by
  have hop' : (s.freed d).journal.op = .voidRecord w true := hop
  simp only [workOutcome, hop']

/-- The lines of R142's table for a failed copy that has been voided. -/
theorem recordVoided_passes {s : State} (w : RecordWrite) (h : 3 ≤ s.journal.consecutiveFailures) :
    recordVoided w s = enterPassing .failed { s with journal := { s.journal with slotSpent := true } } := if_pos h

theorem recordVoided_retires {s : State} (w : RecordWrite) (h : s.journal.consecutiveFailures < 3)
    (htwo : s.journal.sectorFailures = 2) :
    recordVoided w s = requestJournal (.program (slotAddr s w.sector 0) [0x00]) { s with journal := { s.journal with
      rewriteDue := some w.record, slotSpent := false, current := none, op := .retire w.sector false
      sectors := s.journal.sectors.set w.sector ⟨.retired, (s.journal.row w.sector).serial⟩ } } :=
  (if_neg (Nat.not_le.2 h)).trans (if_pos htwo)

theorem recordVoided_again {s : State} (w : RecordWrite) (h : s.journal.consecutiveFailures < 3)
    (hnot : s.journal.sectorFailures ≠ 2) :
    recordVoided w s = { s with journal := { s.journal with
      rewriteDue := some w.record, slotSpent := false, op := .waiting, appendPoint := w.slot + 1 } } :=
  (if_neg (Nat.not_le.2 h)).trans (if_neg hnot)

/-- Settles O50. -/
theorem commitAdvancesTheJournal : Obligations.CommitAdvancesTheJournal := by
  refine ⟨fun w s => ?_, ?_⟩
  · intro t
    obtain ⟨happend, hdurable, hfailures, hstream, hring⟩ := commitRecord_commitsAs w s
    obtain ⟨happend', hdurable', hfailures', hstream', hring'⟩ := commitFirst_parts w s
    obtain ⟨henv, hkeys, hparams, -⟩ := outside_eq.1 (commitRecord_outside w s)
    refine ⟨happend.trans happend', hdurable.trans hdurable', hfailures.trans hfailures', hstream.trans hstream',
      fun hkind => hring.trans (hring'.trans (if_pos ?_)), fun hkind => hring.trans (hring'.trans (if_neg ?_)),
      (env_eq.1 henv).1, hkeys, hparams⟩
    · obtain hkind | hkind | hkind := hkind <;> rw [hkind] <;> rfl
    · obtain hkind | hkind := hkind <;> rw [hkind] <;> exact Bool.false_ne_true
  · intro s w addr deadline flips hf hscan habort status freed voids failures
    have hread := exec_readComplete_journal (flips := flips) hf hscan habort
    have hback {b : Byte} (h : status = b) : readsBack b (s.device.got addr 1 flips) = true := beq_iff_eq.2 h
    have hother {b : Byte} (h : status ≠ b) : ¬ readsBack b (s.device.got addr 1 flips) = true :=
      fun h' => h (beq_iff_eq.1 h')
    have hvoids {j : Journal} {sector slot : Nat} {x : State}
        (hx : exec (.readComplete flips) s = .next (runBlocks x))
        (hreq : x = requestJournal (.program (slotAddr s sector slot) [0x00]) { s.freed s.device with journal := j })
        (hop : j.op ≠ .waiting) (hs : j.scan = s.journal.scan) (hg : j.aborting = s.journal.aborting) :
        voids j sector slot := fun hq hc => hx.trans (congrArg Host.Outcome.next
      (runBlocks_journalGoesOn (u := s.freed s.device) hreq (freed_blocksWait hq _) (freed_headWaits hq _) rfl hc
        (.inl hop) (.inl hs) hg))
    refine ⟨fun hop => ⟨fun hok => ?_, fun hbad => ?_⟩, fun hop => ?_⟩
    · rw [workOutcome_check hop, if_pos (hback (b := statusCommitted) hok)] at hread
      exact hread
    · rw [workOutcome_check hop, if_neg (hother (b := statusCommitted) hbad)] at hread
      exact hvoids hread rfl (by intro h; cases h) rfl rfl
    · intro passes again
      rw [workOutcome_voided hop] at hread
      refine ⟨fun hbad => ?_, fun hok hthree => ?_, fun hok hfew => ⟨fun htwo => ?_, fun hnot => ?_⟩⟩
      · rw [if_neg (hother (b := statusVoid) hbad)] at hread
        exact hread
      all_goals rw [if_pos (hback (b := statusVoid) hok)] at hread
      · rw [recordVoided_passes (s := s.freed s.device) w (Nat.le_of_eq hthree.symm)] at hread
        exact hread
      · rw [recordVoided_retires (s := s.freed s.device) w hfew htwo] at hread
        exact hvoids hread rfl (by intro h; cases h) rfl rfl
      · rw [recordVoided_again (s := s.freed s.device) w hfew hnot] at hread
        exact hread

end Sys2Proof.Machine
end

section
/-! PROOFS. The READs of the recovery scan (R157). -/

namespace Sys2Proof.Machine

/-- A READ of the scan ends with its bytes. -/
theorem exec_readComplete_scan {s : State} {addr n deadline : Nat} {flips : List Byte} {stage : ScanStage}
    (h : s.port.inFlight = some ⟨.read addr n, .journal, .transfer, deadline, false⟩)
    (hscan : s.journal.scan = some stage) :
    exec (.readComplete flips) s =
      .next (runBlocks (scanStep stage (s.device.got addr n flips) (s.freed s.device))) := by
  have hout (bytes : List Byte) :
      journalOutcome (.success bytes) (s.freed s.device) = scanStep stage bytes (s.freed s.device) := by
    have hscan' : (s.freed s.device).journal.scan = some stage := hscan
    simp only [journalOutcome, hscan']
  rw [exec_readComplete h, operationEnds_journal rfl rfl]
  exact congrArg (fun t => Host.Outcome.next (runBlocks t)) (hout _)

/-- What the head of the link-side queue waits for in a scan it waits for in another of its stages. -/
theorem headWaits_scanning {s t : State} (hb : t.port.headBegun = s.port.headBegun)
    (hi : t.port.items = s.port.items) (hs : t.journal.scan ≠ none) (h : s.headWaits) : t.headWaits := by
  obtain hbegun | hempty | ⟨-, hexport⟩ := h
  · exact .inl (hb.trans hbegun)
  · exact .inr (.inl (hi.trans hempty))
  · exact .inr (.inr ⟨hs, by rw [hi]; exact hexport⟩)

/-- The scan goes on to its next operation, which takes the slot. -/
theorem runBlocks_scanGoesOn {u : State} {j : Journal} (stage : ScanStage) (op : MemOp) (hw : u.blocksWait)
    (hh : u.headWaits) (hs : u.port.state = .idle) (hc : u.port.chosen = none)
    (hg : j.aborting = u.journal.aborting) :
    runBlocks (scanRequest stage op { u with journal := j }) =
      { u with journal := { j with scan := some stage }, port := u.port.runs .journal op u.now } := by
  have hjournal : journalStep { u with journal := { j with scan := some stage } } = none := journalStep_scan rfl
  have hwait : ({ u with journal := { j with scan := some stage } } : State).blocksWait :=
    blocksWait_journal hw rfl rfl rfl hjournal rfl hg
  have hhead : ({ u with journal := { j with scan := some stage } } : State).headWaits :=
    headWaits_scanning (s := u) rfl rfl (by intro h; cases h) hh
  exact runBlocks_requestJournal op hwait hhead hs hc

/-- The journal with the counts of step 6 (R157). -/
def Journal.counted (j : Journal) (unclosed : Option Nat) : Journal :=
  { j with
    scan := none, memoryFailed := false, consecutiveFailures := 0, sectorFailures := 0
    unclosedJob := unclosed, blankCount := j.countBlank, nextSector := (j.candidates j.current).head?
    cursorSector := ((j.bySerial.map (·.1)).getLast?).getD 0
    cursorSlot := if j.bySerial = [] then j.appendPoint else 1 }

/-- The scan ends outside start-up with no reply owed, more BLANK sectors than the low threshold, and no job. -/
theorem runBlocks_scanEnds {u : State} {j : Journal} (unclosed : Option Nat) (hw : u.blocksWait)
    (hc : u.port.chosen = none) (hg : j.aborting = u.journal.aborting) (hreplies : j.scanReplies = [])
    (hboot : u.boot = .done) (hmode : j.mode = .idle) (hitems : u.port.items = [])
    (hlow : u.params.lowThreshold < j.countBlank) :
    runBlocks (scanCounts { u with journal := { j with unclosedJob := unclosed } }) =
      { u with journal := j.counted unclosed } := by
  have hcursor : (if j.bySerial.isEmpty = true then j.appendPoint else 1) = if j.bySerial = [] then j.appendPoint else 1 :=
    ite_cond_congr List.isEmpty_iff
  have hends : scanCounts { u with journal := { j with unclosedJob := unclosed } } =
      { u with journal := j.counted unclosed } := by
    unfold scanCounts
    dsimp only
    rw [testJournalLow_above (by exact hlow)]
    simp only [scanOver, State.mapJournal, Journal.setCursor, hreplies, List.foldl_nil]
    refine (if_neg (by rw [hboot]; intro h; cases h)).trans ?_
    rw [Journal.counted, ← hcursor, hreplies]
    rfl
  have hjournal : journalStep { u with journal := j.counted unclosed } = none := by
    have hmode' : (j.counted unclosed).mode = .idle := hmode
    simp only [journalStep, hmode', ite_self]
  rw [hends]
  exact runBlocks_nothingAsked (blocksWait_journal hw rfl rfl rfl hjournal rfl hg) (.inr (.inl hitems)) hc

/-! ## The slots of the current sector (steps 2 and 3) -/

/-- The append point is one past the last slot that is not all FFh. -/
theorem appendAfter_eq {used rest : List (Byte × Bool)} (hrest : ∀ x ∈ rest, x.2 = true)
    (hused : ∀ x, used.getLast? = some x → x.2 = false) : appendAfter (used ++ rest) = used.length + 1 := by
  have hdrop : (used ++ rest).reverse.dropWhile (·.2) = used.reverse := by
    rw [List.reverse_append, List.dropWhile_append_of_pos fun x hx => hrest x (List.mem_reverse.1 hx)]
    cases hlist : used.reverse with
    | nil => rfl
    | cons x xs =>
      have hlast : used.getLast? = some x := by rw [← List.head?_reverse, hlist]; rfl
      exact List.dropWhile_cons_of_neg (by rw [hused x hlast]; exact Bool.false_ne_true)
  rw [appendAfter, hdrop, List.length_reverse]

/-- The slots to void of those used, by their places. -/
theorem voided_eq (used : List (Byte × Bool)) :
    (used.zipIdx.filterMap fun xi => if finishedStatus xi.1.1 then none else some (xi.2 + 1)) =
      ((List.range used.length).filter fun i => !finishedStatus (used.getD i (0, true)).1).map (· + 1) := by
  have hplaces : used.zipIdx = (List.range used.length).map fun i => (used.getD i (0, true), i) := by
    refine List.ext_getElem (by simp) fun i h1 h2 => ?_
    have hi : i < used.length := by simpa using h1
    simp [List.getD_eq_getElem?_getD, hi]
  rw [hplaces, List.filterMap_map]
  induction List.range used.length with
  | nil => rfl
  | cons i is ih =>
    rw [List.filterMap_cons, ih, List.filter_cons]
    cases hb : finishedStatus (used.getD i (0, true)).1
    · simp only [Function.comp_apply, hb, Bool.not_false, if_true, Bool.false_eq_true, if_false, List.map_cons]
    · simp only [Function.comp_apply, hb, Bool.not_true, if_true, Bool.false_eq_true, if_false]

theorem slotsToVoid_eq {used rest : List (Byte × Bool)} (hrest : ∀ x ∈ rest, x.2 = true)
    (hused : ∀ x, used.getLast? = some x → x.2 = false) :
    slotsToVoid (used ++ rest) =
      ((List.range used.length).filter fun i =>
        let b := (used.getD i (0, true)).1
        b != 0x3F && b != 0x1F && b != 0x00).map (· + 1) := by
  have hstatus (b : Byte) : (!finishedStatus b) = (b != 0x3F && b != 0x1F && b != 0x00) := by
    simp only [finishedStatus, Bool.not_or]
    rfl
  rw [slotsToVoid, appendAfter_eq hrest hused, Nat.add_sub_cancel, List.take_left, voided_eq]
  simp only [hstatus]

/-! ## The steps of the scan -/

/-- The scan at a sector's class: the next sector's slot 0, or step 2 (R157). -/
theorem scanClassify_next {s : State} {sector : Nat} (h : sector < s.params.journalCount) :
    scanClassify sector s = scanRequest (.classify sector false) (.read (slotAddr s sector 0) 32) s := if_pos h

theorem scanClassify_last {s : State} {sector : Nat} (h : s.params.journalCount ≤ sector) :
    scanClassify sector s = startSlots s := if_neg (Nat.not_lt.2 h)

/-- Step 2 with an IN_USE sector: that of the highest serial is current, and its slot 1 is read. -/
theorem startSlots_current {u : State} {j : Journal} {x y : Nat × Nat} {xs ys : List (Nat × Nat)}
    (hserial : j.bySerial = x :: xs) (huse : (j.bySerial.filter fun z => (j.row z.1).cls == .inUse) = y :: ys) :
    startSlots { u with journal := j } =
      scanRequest (.slots 1 []) (.read (slotAddr u y.1 1) 32)
        { u with journal := { j with highestSerial := x.2, current := some y.1 } } := by
  simp only [startSlots, State.mapJournal, huse, List.map_cons, List.head?_cons]
  rw [hserial]
  rfl

/-- Step 2 without an IN_USE sector: none is current, and step 5 begins. -/
theorem startSlots_none {u : State} {j : Journal} (huse : ∀ z ∈ j.bySerial, (j.row z.1).cls ≠ .inUse) :
    startSlots { u with journal := j } = startLatest { u with journal := { j with
      highestSerial := ((j.bySerial.map (·.2)).head?).getD 0, current := none, appendPoint := 1 } } := by
  have hnone : (j.bySerial.filter fun z => (j.row z.1).cls == .inUse) = [] :=
    List.filter_eq_nil_iff.2 fun z hz h => huse z hz (eq_of_beq h)
  simp only [startSlots, State.mapJournal, hnone, List.map_nil, List.head?_nil]

/-- Step 5 begins with the sector of the highest serial, or ends at once. -/
theorem startLatest_cons {u : State} {j : Journal} {x : Nat × Nat} {xs : List (Nat × Nat)} (h : j.bySerial = x :: xs) :
    startLatest { u with journal := j } =
      scanRequest (.latest x.1 127 (xs.map (·.1))) (.read (slotAddr u x.1 127) 10) { u with journal := j } := by
  simp only [startLatest, h]
  rfl

theorem startLatest_nil {u : State} {j : Journal} (h : j.bySerial = []) :
    startLatest { u with journal := j } = scanCounts { u with journal := { j with unclosedJob := none } } := by
  simp only [startLatest, h]
  rfl

/-- Without an IN_USE sector step 5 reads the sector of the highest serial, or ends the scan. -/
theorem startSlots_latest {u : State} {j : Journal} {x : Nat × Nat} {xs : List (Nat × Nat)}
    (huse : ∀ z ∈ j.bySerial, (j.row z.1).cls ≠ .inUse) (hserial : j.bySerial = x :: xs) :
    startSlots { u with journal := j } =
      scanRequest (.latest x.1 127 (xs.map (·.1))) (.read (slotAddr u x.1 127) 10)
        { u with journal := { j with highestSerial := x.2, current := none, appendPoint := 1 } } := by
  rw [startSlots_none huse, hserial]
  exact startLatest_cons hserial

theorem startSlots_ends {u : State} {j : Journal} (huse : ∀ z ∈ j.bySerial, (j.row z.1).cls ≠ .inUse)
    (hserial : j.bySerial = []) :
    startSlots { u with journal := j } = scanCounts { u with journal := { j with
      highestSerial := 0, current := none, appendPoint := 1, unclosedJob := none } } := by
  rw [startSlots_none huse, hserial]
  exact startLatest_nil hserial

/-- Step 3 begins at its first slot to void. -/
theorem scanVoids_cons {u : State} {j : Journal} {c k : Nat} {ks : List Nat} (hc : j.current = some c) :
    scanVoids (k :: ks) { u with journal := j } =
      scanRequest (.voids (k :: ks)) (.program (slotAddr u c k) [statusVoid]) { u with journal := j } := by
  simp only [scanVoids, hc]
  rfl

theorem scanVoids_nil (s : State) : scanVoids [] s = startLatest s := by
  unfold scanVoids
  split
  · next h => cases h
  · rfl

/-- The class that a slot 0 of status VOID gives by its check (R157 step 1). -/
theorem headerRow_retired {bytes : List Byte} (hstatus : byteAt bytes 0 = 0x00)
    (hsound : crcBytes ((bytes.drop 1).take 29) = bytes.drop 30) :
    headerRow bytes = ⟨.retired, some (beValue ((bytes.drop 4).take 4))⟩ :=
  (if_neg (by rw [hstatus]; decide)).trans (if_pos ⟨hstatus, beq_iff_eq.2 hsound⟩)

theorem headerRow_none {bytes : List Byte} (hopen : byteAt bytes 0 ≠ 0x3F)
    (hother : byteAt bytes 0 ≠ 0x00 ∨ ¬ crcBytes ((bytes.drop 1).take 29) = bytes.drop 30) :
    headerRow bytes = ⟨.retired, none⟩ :=
  (if_neg hopen).trans (if_neg fun h => hother.elim (· h.1) (· (beq_iff_eq.1 h.2)))

theorem scanStep_slots {s : State} {c : Nat} (hc : s.journal.current = some c) (k : Nat) (seen : List (Byte × Bool))
    (bytes : List Byte) :
    scanStep (.slots k seen) bytes s =
      if k < 127 then
        scanRequest (.slots (k + 1) (seen ++ [(byteAt bytes 0, allBlank bytes)])) (.read (slotAddr s c (k + 1)) 32) s
      else slotsRead (seen ++ [(byteAt bytes 0, allBlank bytes)]) s := by
  simp only [scanStep, hc]

/-- Step 5 at a slot without a record: the slot below, the next sector, or the end. -/
theorem scanStep_latest {bytes : List Byte} (hcommitted : byteAt bytes 0 ≠ 0x3F) (hcorrected : byteAt bytes 0 ≠ 0x1F)
    (sector k : Nat) (later : List Nat) (s : State) :
    scanStep (.latest sector k later) bytes s = scanLatest sector (k - 1) later s :=
  if_neg fun h => h.elim hcommitted hcorrected

theorem scanStep_found {bytes : List Byte} (h : byteAt bytes 0 = 0x3F ∨ byteAt bytes 0 = 0x1F) (sector k : Nat)
    (later : List Nat) (s : State) :
    scanStep (.latest sector k later) bytes s = scanCounts (s.mapJournal fun j => { j with
      unclosedJob := if byteAt bytes 1 = 0x03 then none else some (fieldAt bytes 8 2) }) := if_pos h

/-! ## STORE_SETTINGS and the journal region (R188, R136) -/

theorem askSetJournalRegion_eq (tag b1 b0 c1 c0 : Byte) (s : State) :
    askSetJournalRegion ⟨kindSetParam, tag⟩ [b1, b0, c1, c0] s =
      let base := b1.toNat * 256 + b0.toNat
      let count := c1.toNat * 256 + c0.toNat
      if s.job.pendingAny then answer ⟨kindSetParam, tag⟩ .busy [] s
      else if s.journal.scan.isSome then answer ⟨kindSetParam, tag⟩ .busy [] s
      else if s.job.running then answer ⟨kindSetParam, tag⟩ .state [] s
      else if !journalRegionOk base count then answer ⟨kindSetParam, tag⟩ .badValue [] s
      else if regionTaken s.dict base count then answer ⟨kindSetParam, tag⟩ .protected_ [] s
      else runBlocks (storeRegion tag base count s) := by
  have hbase : fieldAt [b1, b0, c1, c0] 0 2 = b1.toNat * 256 + b0.toNat := beValue_two b1 b0
  have hcount : fieldAt [b1, b0, c1, c0] 2 2 = c1.toNat * 256 + c0.toNat := beValue_two c1 c0
  have hlength : ¬ [b1, b0, c1, c0].length ≠ 4 := Classical.not_not.2 rfl
  simp only [askSetJournalRegion, hbase, hcount, hlength, if_false]

theorem journalRegionOk_iff {base count : Nat} :
    journalRegionOk base count = true ↔ 1 ≤ base ∧ 8 ≤ count ∧ count ≤ 1024 ∧ base + count ≤ 4096 := by
  simp [journalRegionOk, and_assoc]

theorem regionTaken_iff {d : Dict} {base count : Nat} (hcount : 0 < count) :
    regionTaken d base count = true ↔ ∃ i, 0 < (d.layer i).count ∧ base < (d.layer i).base + (d.layer i).count ∧
      (d.layer i).base < base + count := by
  have hall : ∀ i, i ∈ allLayers := by intro i; cases i <;> decide
  simp only [regionTaken, List.any_eq_true, regionsMeet, Bool.and_eq_true, decide_eq_true_eq, hcount]
  constructor
  · rintro ⟨i, -, ⟨⟨hlow, hhigh⟩, -⟩, hsome⟩
    exact ⟨i, hsome, hlow, hhigh⟩
  · rintro ⟨i, hsome, hlow, hhigh⟩
    exact ⟨i, hall i, ⟨⟨hlow, hhigh⟩, trivial⟩, hsome⟩

/-- A region that passes its checks at a free port: it is stored, and the scan's first READ takes the slot (R136). -/
theorem runBlocks_storeRegion {s : State} (hq : s.quiet) (hf : s.portFree) (tag : Byte) (base : Nat) {count : Nat}
    (hcount : 0 < count) :
    runBlocks (storeRegion tag base count (s.mapLink Link.withTaken)) = { s with
      params := { s.params with journalBase := base, journalCount := count }
      journal := { s.journal with
        sectors := List.replicate count ⟨.blank, none⟩, current := none, nextSector := none, slotSpent := false
        op := .waiting, scanReplies := s.journal.scanReplies ++ [.region tag]
        scan := some (.classify 0 false) }
      port := s.port.runs .journal (.read (base * 4096) 32) s.now
      link := s.link.withTaken } := by
  obtain ⟨hstate, hin, hitems, hbegun, hj, ht, hl⟩ := hf
  let u : State := { s with
    params := { s.params with journalBase := base, journalCount := count }, link := s.link.withTaken }
  have hscan := beginScan_eq (u := u) [.region tag] hitems hbegun hin hj hcount
  refine (congrArg runBlocks hscan).trans ?_
  exact runBlocks_journalGoesOn (u := u) rfl (blocksWait_same (quiet_blocksWait hq) rfl rfl rfl rfl rfl rfl)
    (.inr (.inl hitems)) hstate (chosen_none.2 ⟨hj, ht, hl⟩) (.inr rfl) (.inr hitems) rfl

theorem scanning_of_free {s : State} (h : s.job.openPending ≠ none ∨ s.job.abortPending ≠ none ∨ s.journal.scan ≠ none)
    (hfree : ¬ s.job.pendingAny = true) : s.journal.scan.isSome = true := by
  obtain hopen | habort | hscan := h
  · exact absurd (pendingAny_eq_true.2 (.inl hopen)) hfree
  · exact absurd (pendingAny_eq_true.2 (.inr habort)) hfree
  · exact Option.isSome_iff_ne_none.2 hscan

/-- Settles O45. -/
theorem storeAndRegionReachThePort : Obligations.StoreAndRegionReachThePort := by
  refine ⟨?_, ?_⟩
  · intro tag b1 b0 c1 c0 s hs base count store region fits meets free
    have hstore : exec store s = .next (askStoreSettings ⟨kindStoreSettings, tag⟩ [] (s.mapLink Link.withTaken)) :=
      exec_serves hs rfl rfl
    have hvalue (value : List Byte) : exec (.setJournalRegion tag value) s =
        .next (askSetJournalRegion ⟨kindSetParam, tag⟩ value (s.mapLink Link.withTaken)) := exec_serves hs rfl rfl
    have hregion : exec region s = _ := hvalue [b1, b0, c1, c0]
    rw [askSetJournalRegion_eq] at hregion
    have hrefused (kind : Byte) (code : ReplyCode) :
        answer ⟨kind, tag⟩ code [] (s.mapLink Link.withTaken) = s.answering kind tag [replyCodeByte code] :=
      answer_taken_answering kind tag code [] s
    refine ⟨fun hbusy => ⟨hstore.trans (congrArg Host.Outcome.next (Eq.trans ?_ (hrefused kindStoreSettings .busy))),
        hregion.trans (congrArg Host.Outcome.next (Eq.trans ?_ (hrefused kindSetParam .busy)))⟩,
      fun hpending value => (hvalue value).trans (congrArg Host.Outcome.next
        ((if_pos (pendingAny_eq_true.2 hpending)).trans (hrefused kindSetParam .busy))),
      fun hopen habort hscan => ?_⟩
    · by_cases hpending : s.job.pendingAny = true
      · exact if_pos hpending
      · exact (if_neg hpending).trans (if_pos (scanning_of_free hbusy hpending))
    · by_cases hpending : s.job.pendingAny = true
      · exact if_pos hpending
      · exact (if_neg hpending).trans (if_pos (scanning_of_free hbusy hpending))
    · have hfree : ¬ s.job.pendingAny = true := fun h => (pendingAny_eq_true.1 h).elim (· hopen) (· habort)
      have hidle : ¬ s.journal.scan.isSome = true := by rw [hscan]; exact Bool.false_ne_true
      have hstorePassed := hstore.trans (congrArg Host.Outcome.next ((if_neg hfree).trans (if_neg hidle)))
      have hregionPassed := hregion.trans (congrArg Host.Outcome.next ((if_neg hfree).trans (if_neg hidle)))
      have hstill (hjob : s.job.state = .noJob) : ¬ s.job.running = true := by
        rw [Job.running, hjob]; exact Bool.false_ne_true
      refine ⟨fun hrunning => ⟨hstorePassed.trans (congrArg Host.Outcome.next
            ((if_pos (running_iff.2 hrunning)).trans (hrefused kindStoreSettings .state))),
          hregionPassed.trans (congrArg Host.Outcome.next
            ((if_pos (running_iff.2 hrunning)).trans (hrefused kindSetParam .state)))⟩,
        fun hjob hport => hstorePassed.trans (congrArg Host.Outcome.next ((if_neg (hstill hjob)).trans
          (runBlocks_request_granted hport.1 hport.2 (.inl rfl) rfl rfl))),
        fun hjob hbad => hregionPassed.trans (congrArg Host.Outcome.next ((if_neg (hstill hjob)).trans
          ((if_pos ?_).trans (hrefused kindSetParam .badValue)))),
        fun hjob hfit hmeets => ?_, fun hjob hfit hapart hport => ?_⟩
      · rw [Bool.not_eq_true', Bool.eq_false_iff]
        exact fun h => hbad (journalRegionOk_iff.1 h)
      all_goals
        have hok : ¬ (!journalRegionOk base count) = true := by
          rw [journalRegionOk_iff.2 hfit]; exact Bool.false_ne_true
        have hpos : 0 < count := by omega
        have hchecked := hregionPassed.trans
          (congrArg Host.Outcome.next ((if_neg (hstill hjob)).trans (if_neg hok)))
      · exact hchecked.trans (congrArg Host.Outcome.next ((if_pos ((regionTaken_iff hpos).2 hmeets)).trans
          (hrefused kindSetParam .protected_)))
      · exact hchecked.trans (congrArg Host.Outcome.next ((if_neg fun h => hapart ((regionTaken_iff hpos).1 h)).trans
          (runBlocks_storeRegion hport.1 hport.2 tag base hpos)))
  · intro s addr n deadline flips hf hq hc got blank status serial sound slot goesOn ends classes
    let u : State := s.freed s.device
    have hread {stage : ScanStage} (hscan : s.journal.scan = some stage) :
        exec (.readComplete flips) s = .next (runBlocks (scanStep stage got u)) := exec_readComplete_scan hf hscan
    have hgoes {j : Journal} {stage : ScanStage} {op : MemOp}
        (hx : exec (.readComplete flips) s = .next (runBlocks (scanRequest stage op { u with journal := j })))
        (hg : j.aborting = s.journal.aborting) : goesOn j stage op :=
      hx.trans (congrArg Host.Outcome.next (runBlocks_scanGoesOn (u := u) stage op (freed_blocksWait hq _)
        (freed_headWaits hq _) rfl hc hg))
    have hends {j : Journal} {unclosed : Option Nat}
        (hx : exec (.readComplete flips) s =
          .next (runBlocks (scanCounts { u with journal := { j with unclosedJob := unclosed } })))
        (hg : j.aborting = s.journal.aborting) (hr : j.scanReplies = s.journal.scanReplies)
        (hm : j.mode = s.journal.mode) : ends j unclosed :=
      fun hreplies hboot hmode hitems hlow => hx.trans (congrArg Host.Outcome.next
        (runBlocks_scanEnds (u := u) unclosed (freed_blocksWait hq _) hc hg (hr.trans hreplies) hboot
          (hm.trans hmode) hitems hlow))
    have hclasses {sector : Nat} {row : SectorRow}
        (hx : exec (.readComplete flips) s = .next (runBlocks (classed sector row u))) : classes sector row := by
      let j : Journal := { s.journal with sectors := s.journal.sectors.set sector row }
      have hx' : exec (.readComplete flips) s =
        .next (runBlocks (scanClassify (sector + 1) { u with journal := j })) := hx
      refine ⟨fun hmore => ?_, fun hlast x xs y ys hserial huse => ?_, fun hlast huse => ⟨fun x xs hserial => ?_,
        fun hserial => ?_⟩⟩
      · rw [scanClassify_next (s := { u with journal := j }) hmore] at hx'
        exact hgoes hx' rfl
      all_goals rw [scanClassify_last (s := { u with journal := j }) hlast] at hx'
      · rw [startSlots_current hserial huse] at hx'
        exact hgoes hx' rfl
      · have hserial' : j.bySerial = x :: xs := hserial
        rw [startSlots_latest huse hserial'] at hx'
        exact hgoes hx' rfl
      · have hserial' : j.bySerial = [] := hserial
        rw [startSlots_ends huse hserial'] at hx'
        exact hends hx' rfl rfl rfl
    have hnext {t t' : State} (h : t = t') : Host.Outcome.next (runBlocks t) = (.next (runBlocks t') : Result) :=
      congrArg (fun t => Host.Outcome.next (runBlocks t)) h
    have hnot (h : blank = false) : ¬ allBlank got = true := fun h' => Bool.false_ne_true (h.symm.trans h')
    refine ⟨fun sector hscan => ⟨fun hblank => ?_, fun hblank hstatus => ?_, fun hblank hstatus hsound => ?_,
        fun hblank hopen hother => ?_⟩,
      fun sector hscan => ⟨fun hblank => ?_, fun hblank => ?_⟩,
      fun k seen c hscan hcurrent => ⟨fun hmore => ?_, fun hlast used rest hall hrest hused => ?_⟩,
      fun sector k later hscan => ⟨fun hopen hcorrected hk => ?_, fun hopen hcorrected hk => ?_, fun hfound => ?_⟩⟩
    · exact hgoes ((hread hscan).trans (hnext (if_pos hblank))) rfl
    · exact hclasses ((hread hscan).trans (hnext ((if_neg (hnot hblank)).trans
        (congrArg (classed sector · u) (if_pos hstatus)))))
    · exact hclasses ((hread hscan).trans (hnext ((if_neg (hnot hblank)).trans
        (congrArg (classed sector · u) (headerRow_retired hstatus hsound)))))
    · exact hclasses ((hread hscan).trans (hnext ((if_neg (hnot hblank)).trans
        (congrArg (classed sector · u) (headerRow_none hopen hother)))))
    · exact hclasses ((hread hscan).trans (hnext (congrArg (classed sector · u) (if_pos hblank))))
    · exact hclasses ((hread hscan).trans (hnext (congrArg (classed sector · u) (if_neg (hnot hblank)))))
    · have hslots := (hread hscan).trans (hnext ((scanStep_slots (s := u) hcurrent k seen got).trans (if_pos hmore)))
      exact hgoes hslots rfl
    · intro j voids
      have hslots := (hread hscan).trans (hnext ((scanStep_slots (s := u) hcurrent k seen got).trans
        (if_neg (Nat.not_lt.2 hlast))))
      have hvoids : slotsRead (seen ++ [(byteAt got 0, allBlank got)]) u = scanVoids voids { u with journal := j } := by
        have hseen : seen ++ [(byteAt got 0, allBlank got)] = used ++ rest := hall
        rw [slotsRead, hseen, slotsToVoid_eq hrest hused, appendAfter_eq hrest hused]
        rfl
      rw [hvoids] at hslots
      refine ⟨fun x xs hcons => ?_, fun hnil y ys hserial => ?_⟩
      · rw [hcons, scanVoids_cons (u := u) (j := j) hcurrent, ← hcons] at hslots
        exact hgoes hslots rfl
      · have hserial' : j.bySerial = y :: ys := hserial
        rw [hnil, scanVoids_nil, startLatest_cons hserial'] at hslots
        exact hgoes hslots rfl
    · have hdown : 1 ≤ k - 1 := by omega
      exact hgoes ((hread hscan).trans (hnext ((scanStep_latest hopen hcorrected sector k later u).trans
        (if_pos hdown)))) rfl
    · have hbottom : ¬ 1 ≤ k - 1 := by omega
      have hlatest := (hread hscan).trans (hnext ((scanStep_latest hopen hcorrected sector k later u).trans
        (if_neg hbottom)))
      refine ⟨fun x xs hcons => ?_, fun hnil => ?_⟩
      · subst hcons
        exact hgoes hlatest rfl
      · subst hnil
        exact hends hlatest rfl rfl rfl
    · exact hends ((hread hscan).trans (hnext (scanStep_found hfound sector k later u))) rfl rfl rfl

end Sys2Proof.Machine
end

section
/-! PROOFS. The job open in every block (R172). -/

namespace Sys2Proof.Machine

/-! ## The feed unit over an empty stream -/

/-- All positions of a port are 0 (R134). -/
def Port.atZero (p : Port) : Prop := p.base = 0 ∧ p.displayed = 0 ∧ p.valid = 0 ∧ p.settledSent = 0

/-- The stream is empty, and every port stands at its beginning. -/
def State.feedsAtZero (s : State) : Prop :=
  s.stream.length = 0 ∧ s.stream.settled = 0 ∧ ∀ i, (s.feeds.port i).atZero

/-- Over an empty stream the only frame a port takes is a CLEAR to its beginning. -/
theorem frameFor_atZero {s : State} (h : s.feedsAtZero) {i : PortId} {f : FeedFrame} (hf : frameFor s i = some f) :
    f = .clear 0 := by
  obtain ⟨hlength, hsettled, hports⟩ := h
  obtain ⟨-, hdisplayed, hvalid, hsent⟩ := hports i
  have htarget : target s i = 0 := by rw [target_eq, hlength, hsettled, ite_self]
  have hpoint : refreshPoint s i = 0 := by
    simp only [refreshPoint, retainStart, hsettled, Nat.zero_sub, Nat.max_self]
  simp only [frameFor, hdisplayed, hvalid, hsent, htarget, hpoint, hsettled, Nat.lt_irrefl, and_false, if_false,
    Nat.min_self] at hf
  split at hf
  · exact (Option.some.inj hf).symm
  · cases hf

theorem choose_atZero {s : State} (h : s.feedsAtZero) (i : PortId) : (choose i s).feedsAtZero := by
  unfold choose
  split
  · cases hf : frameFor s i with
    | none => exact h
    | some f =>
      obtain rfl := frameFor_atZero h hf
      change (takeFrame i (.clear 0) s).feedsAtZero
      obtain ⟨hlength, hsettled, hports⟩ := h
      have hput (q : Port) (hq : q.atZero) (k : PortId) : ((s.feeds.setPort i q).port k).atZero := by
        by_cases hk : k = i
        · rw [hk, setPort_port]; exact hq
        · rw [setPort_port_ne _ hk]; exact hports k
      by_cases hi : i = .p0
      · subst hi
        have htaken : takeFrame .p0 (.clear 0) s = _ := enqueue_link ..
        rw [htaken]
        exact ⟨hlength, hsettled, hput _ ⟨rfl, rfl, rfl, rfl⟩⟩
      · rw [takeFrame_viewer hi]
        exact ⟨hlength, hsettled, hput _ ⟨rfl, rfl, rfl, rfl⟩⟩
  · exact h

theorem chooseAll_atZero {s : State} (h : s.feedsAtZero) : (chooseAll s).feedsAtZero := by
  have hrun : ∀ (n : Nat) (u : State), u.feedsAtZero → (chooseRun n u).feedsAtZero := by
    intro n
    induction n with
    | zero => exact fun u hu => hu
    | succ n ih =>
      intro u hu
      unfold chooseRun
      split
      · exact ih _ (choose_atZero hu .p0)
      · exact hu
  exact choose_atZero (choose_atZero (choose_atZero (choose_atZero (hrun _ s h) .p1) .p2) .p3) .p4

/-- The ports' positions are 0 once a job has opened over an empty stream (R134). -/
theorem feedJobOpen_atZero {s : State} (hlength : s.stream.length = 0) (hsettled : s.stream.settled = 0) :
    (feedJobOpen s).feedsAtZero := by
  refine chooseAll_atZero ⟨hlength, hsettled, fun i => ?_⟩
  have hstart : retainStart s = 0 := by simp only [retainStart, hsettled, Nat.zero_sub]
  have hport := mapPorts_port s.feeds (fun _ p =>
    if p.active then p.enter .refreshing (retainStart s)
    else { p with base := 0, displayed := 0, valid := 0, settledSent := 0 }) i
  rw [hstart] at hport
  change ((s.feeds.mapPorts fun _ p =>
    if p.active then p.enter .refreshing (retainStart s)
    else { p with base := 0, displayed := 0, valid := 0, settledSent := 0 }).port i).atZero
  rw [hstart, hport]
  split <;> exact ⟨rfl, rfl, rfl, rfl⟩

/-! ## The open (R172) -/

/-- The mode that an open brings the journal (R151). -/
def OpenPending.mode (o : OpenPending) : JournalMode := if o.answer = .noCause then .running else .passing

/-- The state in which the open reaches the feed unit: every block before it is as a new job finds it. -/
def State.opening (s : State) (o : OpenPending) : State :=
  { s with
    job := { s.job with
      state := .opened, number := o.jobNumber, openPending := none, translationDrained := false, discarded := 0 }
    former := { s.former with
      jobClock := 0, audioCount := 0, audioSeen := false
      downTime := if s.former.state = .idle then s.former.downTime else 0
      audioDown := if s.former.state = .idle then s.former.audioDown else 0 }
    ring := Ring.reset
    engine := { Engine.reset with state := .waiting }
    stream := { Stream.reset with modeSeen := o.mode } }

/-- The journal of the new job (R151). -/
def Journal.opened (j : Journal) (o : OpenPending) : Journal :=
  { j with
    jobNumber := o.jobNumber, durable := none, consecutiveFailures := 0, amendmentsDropped := 0
    amendments := [], unclosedJob := none, closePending := false, rewriteDue := none
    mode := o.mode, cause := o.answer, jobOpenDue := o.answer == .noCause }

theorem journalJobOpen_eq (o : OpenPending) (s : State) :
    ∃ l, journalJobOpen o.jobNumber o.answer s = { s with journal := s.journal.opened o, link := l } := by
  have hmode : (if (o.answer == .noCause) = true then JournalMode.running else .passing) = o.mode :=
    ite_cond_congr beq_iff_eq
  unfold journalJobOpen
  dsimp only
  rw [Journal.opened, ← hmode]
  split
  · exact ⟨_, rfl⟩
  · exact ⟨_, raise_link ..⟩

theorem openAllBlocks_opening (o : OpenPending) (s : State) :
    openAllBlocks o s = journalJobOpen o.jobNumber o.answer (feedJobOpen (s.opening o)) := rfl

theorem feedJobOpen_changes (s : State) : ∃ f l, feedJobOpen s = { s with feeds := f, link := l } :=
  chooseAll_changes (s.mapFeeds _)

/-- The open in every block, but for the feed unit's positions and the notices queued. -/
theorem openAllBlocks_eq (o : OpenPending) (s : State) :
    ∃ f l, openAllBlocks o s = { s.opening o with feeds := f, journal := s.journal.opened o, link := l } ∧
      ∀ i, (f.port i).atZero := by
  obtain ⟨f, l, hfeed⟩ := feedJobOpen_changes (s.opening o)
  obtain ⟨l', hopen⟩ := journalJobOpen_eq o (feedJobOpen (s.opening o))
  obtain ⟨-, -, hports⟩ := feedJobOpen_atZero (s := s.opening o) rfl rfl
  rw [hfeed] at hports hopen
  rw [openAllBlocks_opening, hfeed]
  exact ⟨f, l', hopen, hports⟩

/-- Settles O47. -/
theorem theOpenTakesEffect : Obligations.TheOpenTakesEffect := by
  intro s o hopen t mode
  obtain ⟨f, l, hall, hports⟩ := openAllBlocks_eq o s
  have ht : t = reply kindJobOpen o.tag .ok (openFields (openAllBlocks o s)) (openAllBlocks o s) := by
    simp only [t, openTakesEffect, hopen]
  rw [reply_eq, hall] at ht
  rw [ht]
  exact ⟨rfl, rfl, rfl, ⟨rfl, rfl, rfl, rfl, rfl, rfl, rfl, rfl, rfl, rfl, rfl, rfl, rfl⟩,
    ⟨rfl, rfl, rfl, rfl, rfl, rfl⟩, ⟨rfl, rfl, rfl, rfl, rfl, rfl⟩, hports, List.getLast?_concat ..⟩

end Sys2Proof.Machine
end

section
/-! PROOFS. JOB_OPEN and the validation of the layers (R171, R42). -/

namespace Sys2Proof.Machine

/-! ## The journal's answer (R151) -/

theorem journalAnswer_scanning {s : State} (h : s.journal.scan ≠ none) : journalAnswer s = .busy := by
  have hscan : s.journal.scan.isSome = true := Option.isSome_iff_ne_none.2 h
  simp only [journalAnswer, hscan, Bool.true_or, if_true]

/-- What the journal answers with no scan, seek or erase in hand. -/
theorem journalAnswer_free {s : State} (hscan : s.journal.scan = none) (hop : s.journal.op ≠ .seeking)
    (hitems : s.port.items = []) :
    journalAnswer s =
      if s.journal.memoryFailed then .notReady .failed
      else if s.journal.needsSector && s.journal.nextSector.isNone then
        if 0 < s.journal.blankCount then .seeks else .notReady .exhausted
      else .ready := by
  have hseek : (s.journal.op == .seeking) = false := beq_eq_false_iff_ne.2 hop
  simp only [journalAnswer, hscan, hseek, hitems, Option.isSome_none, List.any_nil, Bool.or_self, Bool.false_eq_true,
    if_false]

theorem journalAnswer_failed {s : State} (hscan : s.journal.scan = none) (hop : s.journal.op ≠ .seeking)
    (hitems : s.port.items = []) (h : s.journal.memoryFailed = true) : journalAnswer s = .notReady .failed :=
  (journalAnswer_free hscan hop hitems).trans (if_pos h)

theorem journalAnswer_ready {s : State} (hscan : s.journal.scan = none) (hop : s.journal.op ≠ .seeking)
    (hitems : s.port.items = []) (h : s.journal.memoryFailed = false) (hcurrent : s.journal.current ≠ none)
    (hroom : s.journal.appendPoint < 128) : journalAnswer s = .ready := by
  have hsector : s.journal.needsSector = false := by
    have hfull : decide (sectorSlots ≤ s.journal.appendPoint) = false := decide_eq_false (Nat.not_le.2 hroom)
    rw [Journal.needsSector, hfull, Bool.or_false, ← Option.not_isSome, Option.isSome_iff_ne_none.2 hcurrent]
    rfl
  rw [journalAnswer_free hscan hop hitems, h, hsector]
  rfl

/-! ## JOB_OPEN (R171) -/

/-- A set or clear field is read as its code (R181). -/
theorem boolOf_flag {b : Byte} (h : b.toNat ≤ 1) : boolOf b = some (b == 1) := by
  obtain hzero | hone : b = 0 ∨ b = 1 := by
    obtain hb | hb : b.toNat = 0 ∨ b.toNat = 1 := by omega
    · exact .inl (BitVec.eq_of_toNat_eq hb)
    · exact .inr (BitVec.eq_of_toNat_eq hb)
  · rw [hzero]; rfl
  · rw [hone]; rfl

theorem askJobOpen_eq (tag j1 j0 option : Byte) (s : State) :
    askJobOpen ⟨kindJobOpen, tag⟩ [j1, j0, option] s =
      let job := j1.toNat * 256 + j0.toNat
      if s.job.pendingAny then answer ⟨kindJobOpen, tag⟩ .busy [] s
      else if s.job.running then answer ⟨kindJobOpen, tag⟩ .state [] s
      else if job = 0 ∨ 1 < option.toNat then answer ⟨kindJobOpen, tag⟩ .badValue [] s
      else openAnswered ⟨kindJobOpen, tag⟩ job (option == 1) s := by
  have hjob : fieldAt [j1, j0, option] 0 2 = j1.toNat * 256 + j0.toNat := beValue_two j1 j0
  have hoption : byteAt [j1, j0, option] 2 = option := rfl
  have hvalue : (if j1.toNat * 256 + j0.toNat = 0 then answer ⟨kindJobOpen, tag⟩ .badValue [] s
      else match boolOf option with
        | none => answer ⟨kindJobOpen, tag⟩ .badValue [] s
        | some allow => openAnswered ⟨kindJobOpen, tag⟩ (j1.toNat * 256 + j0.toNat) allow s) =
      if j1.toNat * 256 + j0.toNat = 0 ∨ 1 < option.toNat then answer ⟨kindJobOpen, tag⟩ .badValue [] s
      else openAnswered ⟨kindJobOpen, tag⟩ (j1.toNat * 256 + j0.toNat) (option == 1) s := by
    by_cases hlarge : 1 < option.toNat
    · rw [(boolOf_eq_none option).2 hlarge, if_pos (Or.inr hlarge), ite_self]
    · rw [boolOf_flag (Nat.not_lt.1 hlarge)]
      exact ite_cond_congr (by simp [hlarge])
  simp only [askJobOpen, hjob, hoption]
  rw [← hvalue] <;> rfl

/-- The READ of a layer's header is the validation's first operation, or its next (R42). -/
theorem validateNext_cons {s : State} (i : LayerId) (rest : List LayerId) :
    validateNext (i :: rest) s =
      requestLink (.read ((s.dict.layer i).base * 4096) 16) (setHead (.validation (i :: rest)) s) := rfl

/-- An accepted JOB_OPEN at a free port with a layer to validate: its header's READ takes the slot. -/
theorem acceptOpen_validates {s : State} (hq : s.quiet) (hf : s.portFree) (o : OpenPending) {i : LayerId}
    {rest : List LayerId} (h : pendingLayers s.dict = i :: rest) :
    acceptOpen o (s.mapLink Link.withTaken) = { s with
      job := { s.job with openPending := some o }
      link := s.link.withTaken
      port := s.port.serving (.validation (i :: rest)) (.read ((s.dict.layer i).base * 4096) 16) s.now } := by
  let u : State := { s with job := { s.job with openPending := some o }, link := s.link.withTaken }
  have hbegin : beginItem (.validation []) (u.mapPort fun p => { p with items := [.validation []], headBegun := true }) =
      requestLink (.read ((s.dict.layer i).base * 4096) 16)
        (u.mapPort fun p => { p with items := [.validation (i :: rest)], headBegun := true }) := by
    simp only [beginItem]
    refine (congrArg (validateNext · _) h).trans ?_
    rw [validateNext_cons]
    rfl
  exact runBlocks_pushItem_granted (s := u) (t := u)
    ((quiet_congr (s := s) (t := u) rfl rfl rfl rfl rfl rfl rfl).2 hq) hf (.inl rfl) hbegin rfl rfl rfl rfl rfl rfl rfl
    rfl

/-- With no layer to validate the open takes effect in the step of the JOB_OPEN (R42). -/
theorem acceptOpen_opens {s : State} (hq : s.quiet) (hf : s.portFree) (o : OpenPending)
    (h : pendingLayers s.dict = []) :
    acceptOpen o (s.mapLink Link.withTaken) = cascade (cascadeBound - 1) (openTakesEffect { s with
      job := { s.job with openPending := some o }, link := s.link.withTaken }) := by
  obtain ⟨-, -, hitems, hbegun, -⟩ := hf
  let u : State := { s with job := { s.job with openPending := some o }, link := s.link.withTaken }
  have hpush : (pushItem (.validation []) u).mapPort (fun p => { p with headBegun := true }) =
      { u with port := { s.port with items := [.validation []], headBegun := true } } := by
    simp only [pushItem, State.mapPort, u, hitems]
    rfl
  have hport : { s.port with items := [], headBegun := false } = s.port := by rw [← hitems, ← hbegun]
  have hbegin : beginItem (.validation []) { u with port := { s.port with items := [.validation []], headBegun := true } } =
      openTakesEffect u := by
    simp only [beginItem]
    refine (congrArg (validateNext · _) h).trans ?_
    exact congrArg (fun p => openTakesEffect { u with port := p }) hport
  have hwait : (pushItem (.validation []) u).blocksWait :=
    blocksWait_same (quiet_blocksWait hq) rfl rfl rfl rfl rfl rfl
  have hstep := internalStep_head (i := .validation []) (rest := []) hwait hbegun
    (by simp only [pushItem, State.mapPort, u, hitems]; rfl) (.inl rfl)
  rw [hpush, hbegin] at hstep
  exact cascade_step 4095 hstep

/-! ## The header READs of the validation (R42) -/

/-- A layer by the header that was read of it (R37, R41). -/
theorem afterHeader_some (l : Layer) (bytes : List Byte) :
    l.afterHeader (some bytes) =
      let bits := (byteAt bytes 3).toNat
      let length := fieldAt bytes 8 4
      if byteAt bytes 0 = 0x5A ∧ byteAt bytes 1 = 0x44 ∧ byteAt bytes 2 = 0x01 ∧ 8 ≤ bits ∧ bits ≤ 20 ∧
          16 + 4 * 2 ^ bits ≤ length ∧ length ≤ l.count * 4096 then
        { l with
          valid := true, checkPending := false, bucketBits := bits
          entryCount := fieldAt bytes 4 4, imageLength := length }
      else { l with valid := false, checkPending := false, bucketBits := 8, entryCount := 0, imageLength := 0 } := by
  by_cases h : byteAt bytes 0 = 0x5A ∧ byteAt bytes 1 = 0x44 ∧ byteAt bytes 2 = 0x01 ∧ 8 ≤ (byteAt bytes 3).toNat ∧
      (byteAt bytes 3).toNat ≤ 20 ∧ 16 + 4 * 2 ^ (byteAt bytes 3).toNat ≤ fieldAt bytes 8 4 ∧
      fieldAt bytes 8 4 ≤ l.count * 4096
  · have hread : readHeader bytes l.count =
        some ⟨(byteAt bytes 3).toNat, fieldAt bytes 4 4, fieldAt bytes 8 4⟩ := if_pos h
    simp only [Layer.afterHeader, hread]
    exact (if_pos h).symm
  · have hread : readHeader bytes l.count = none := if_neg h
    simp only [Layer.afterHeader, hread]
    exact (if_neg h).symm

/-- Settles O46. -/
theorem jobOpenChecksAndValidates : Obligations.JobOpenChecksAndValidates := by
  refine ⟨?_, ?_⟩
  · intro tag j1 j0 option s hs job c layers
    have hexec : exec c s = .next (askJobOpen ⟨kindJobOpen, tag⟩ [j1, j0, option] (s.mapLink Link.withTaken)) :=
      exec_serves hs rfl rfl
    rw [askJobOpen_eq] at hexec
    have hrefused (code : ReplyCode) (fields : List Byte) :
        answer ⟨kindJobOpen, tag⟩ code fields (s.mapLink Link.withTaken) =
          s.answering kindJobOpen tag (replyCodeByte code :: fields) :=
      answer_taken_answering kindJobOpen tag code fields s
    refine ⟨fun hpending => hexec.trans (congrArg Host.Outcome.next
        ((if_pos (pendingAny_eq_true.2 hpending)).trans (hrefused .busy []))), fun hopen habort => ?_⟩
    have hfree : ¬ s.job.pendingAny = true := fun h => (pendingAny_eq_true.1 h).elim (· hopen) (· habort)
    have hchecked := hexec.trans (congrArg Host.Outcome.next (if_neg hfree))
    have hstill (hjob : s.job.state = .noJob) : ¬ s.job.running = true := by
      rw [Job.running, hjob]; exact Bool.false_ne_true
    refine ⟨fun hrunning => hchecked.trans (congrArg Host.Outcome.next
        ((if_pos (running_iff.2 hrunning)).trans (hrefused .state []))),
      fun hjob hbad => hchecked.trans (congrArg Host.Outcome.next ((if_neg (hstill hjob)).trans
        ((if_pos hbad).trans (hrefused .badValue [])))), fun hjob hnumber hoption => ?_⟩
    have hvalues : ¬ (job = 0 ∨ 1 < option.toNat) := fun h => h.elim hnumber (Nat.not_lt.2 hoption)
    have hpassed := hchecked.trans (congrArg Host.Outcome.next ((if_neg (hstill hjob)).trans (if_neg hvalues)))
    refine ⟨fun hscan => ?_, fun hscan hop hq hport => ?_⟩
    · refine hpassed.trans (congrArg Host.Outcome.next ?_)
      simp only [openAnswered, journalAnswer_scanning (s := s.mapLink Link.withTaken) hscan]
      exact hrefused .busy []
    · have hitems : s.port.items = [] := hport.2.2.1
      refine ⟨fun hfailed hzero => ?_, ?_⟩
      · refine hpassed.trans (congrArg Host.Outcome.next ?_)
        simp only [openAnswered, journalAnswer_failed (s := s.mapLink Link.withTaken) hscan hop hitems hfailed, hzero]
        exact hrefused .journal [0x01]
      · intro pending accepted
        have haccepted {cause : JournalCause} (h : exec c s =
            .next (acceptOpen ⟨tag, job, option == 1, cause⟩ (s.mapLink Link.withTaken))) : accepted cause := by
          refine ⟨fun i rest hlayers => ?_, fun hnone => h.trans (congrArg Host.Outcome.next
            (acceptOpen_opens hq hport _ hnone))⟩
          rw [hlayers]
          exact h.trans (congrArg Host.Outcome.next (acceptOpen_validates hq hport _ hlayers))
        refine ⟨fun hfailed hone => haccepted (hpassed.trans (congrArg Host.Outcome.next ?_)),
          fun hsound hcurrent hroom => haccepted (hpassed.trans (congrArg Host.Outcome.next ?_))⟩
        · simp only [openAnswered, journalAnswer_failed (s := s.mapLink Link.withTaken) hscan hop hitems hfailed, hone]
          rfl
        · simp only [openAnswered,
            journalAnswer_ready (s := s.mapLink Link.withTaken) hscan hop hitems hsound hcurrent hroom]
          rfl
  · intro i rest addr deadline flips s hf hi hb hc hq got layer bits length validated dict
    have hvalidated : layer.afterHeader (some got) = validated := afterHeader_some layer got
    have hread := exec_readComplete_link (flips := flips) hf hi
    refine ⟨fun j more hrest => ?_, fun hrest => ?_⟩
    · subst hrest
      refine hread.trans (congrArg Host.Outcome.next ?_)
      have hlookup : dict.lookup = s.dict.lookup := by simp only [dict]; cases i <;> rfl
      have hgoes := runBlocks_itemGoesOn (u := { s.freed s.device with dict := dict })
        (x := itemOutcome (.validation (i :: j :: more)) (.success got) (s.freed s.device))
        (i' := .validation (j :: more)) (op := .read ((dict.layer j).base * 4096) 16) ?_ hi hb
        (blocksWait_same (freed_blocksWait hq s.device) rfl hlookup rfl rfl rfl rfl) rfl hc
      · exact hgoes
      · simp only [dict, ← hvalidated]
        rfl
    · subst hrest
      refine hread.trans (congrArg (fun t => Host.Outcome.next (runBlocks t)) ?_)
      have hpop : popItem { s.freed s.device with dict := dict } = { s with
          dict := dict
          port := { s.port with state := .idle, inFlight := none, items := [], headBegun := false } } := by
        simp only [popItem, State.mapPort, State.freed, hi]
        rfl
      rw [← hpop]
      simp only [dict, ← hvalidated]
      rfl

end Sys2Proof.Machine
end

section
/-! PROOFS. JOB_CLOSE and its end, and JOB_ABORT (R173 to R175). -/

namespace Sys2Proof.Machine

/-! ## Blocks with no job in hand -/

/-- With the engine and the journal out of work the blocks wait. -/
theorem blocksWait_idle {s t : State} (hs : s.blocksWait) (hrun : t.engine.run = none)
    (hstate : t.engine.state ≠ .waiting) (hmode : t.journal.mode = .idle)
    (ha : t.job.abortPending = s.job.abortPending) (hg : t.journal.aborting = s.journal.aborting) : t.blocksWait := by
  obtain ⟨-, -, -, -, habort⟩ := hs
  refine ⟨(evaluationStep_none t).2 (.inl hrun), (takeStep_none t).2 fun h => absurd h hstate,
    (drainStep_none t).2 fun h => hstate h.1, ?_, (abortStep_none t).2 ?_⟩
  · simp only [journalStep, hmode, ite_self]
  · rw [ha, hg]
    exact (abortStep_none s).1 habort

theorem quiet_idle {s t : State} (hq : s.quiet) (hrun : t.engine.run = none)
    (hstate : t.engine.state ≠ .waiting) (hmode : t.journal.mode = .idle)
    (ha : t.job.abortPending = s.job.abortPending) (hg : t.journal.aborting = s.journal.aborting)
    (hscan : t.journal.scan = s.journal.scan) (hport : t.port = s.port) : t.quiet := by
  obtain ⟨hwait, hhead, hgrant⟩ := (quiet_iff s).1 hq
  refine (quiet_iff t).2 ⟨blocksWait_idle hwait hrun hstate hmode ha hg, (headStep_none t).2 ?_,
    (grantStep_none t).2 ?_⟩
  · exact headWaits_congr (s := s) (by rw [hport]) (by rw [hport]) hscan ((headStep_none s).1 hhead)
  · rw [hport]
    exact (grantStep_none s).1 hgrant

/-- The settle test with no chunk in the list. -/
theorem settleTest_empty {s : State} (h : s.engine.chunks = []) : settleTest s = s := by
  rw [settleTest, h]
  rfl

/-! ## Whose work comes first in a step (log 6) -/

theorem internalStep_evaluates {s t : State} (h : evaluationStep s = some t) : internalStep s = some t := by
  rw [internalStep, h]
  rfl

theorem internalStep_drains {s t : State} (he : evaluationStep s = none) (ht : takeStep s = none)
    (h : drainStep s = some t) : internalStep s = some t := by
  rw [internalStep, he, ht, h]
  rfl

theorem internalStep_journal {s t : State} (he : evaluationStep s = none) (ht : takeStep s = none)
    (hd : drainStep s = none) (h : journalStep s = some t) : internalStep s = some t := by
  rw [internalStep, he, ht, hd, h]
  rfl

theorem internalStep_aborts {s t : State} (he : evaluationStep s = none) (ht : takeStep s = none)
    (hd : drainStep s = none) (hj : journalStep s = none) (h : abortStep s = some t) : internalStep s = some t := by
  rw [internalStep, he, ht, hd, hj, h]
  rfl

/-! ## The end of a close (R174) -/

/-- The close completes with no chunk unsettled: what each block becomes, and the reply with its summary. -/
theorem journalClosed_eq {s : State} {tag : Byte} (hchunks : s.engine.chunks = [])
    (hclose : s.job.closePending = some tag) :
    journalClosed s = { s with
      job := { s.job with state := .noJob, closePending := none }
      engine := { s.engine with state := .idle, closeMark := false }
      journal := { s.journal with closePending := false, mode := .idle, cause := .noCause, op := .waiting }
      stream := { s.stream with modeSeen := .idle }
      link := s.link.withReply s.now kindJobClose tag (0x00 :: closeSummary s s.journal.mode s.journal.cause) } := by
  have hmode : modeChanged .idle (s.mapJournal fun j =>
      { j with closePending := false, mode := .idle, cause := .noCause, op := .waiting }) = { s with
        journal := { s.journal with closePending := false, mode := .idle, cause := .noCause, op := .waiting }
        stream := { s.stream with modeSeen := .idle } } := settleTest_empty hchunks
  simp only [journalClosed, hmode, closeCompletes]
  simp only [State.mapJob, State.mapEngine, hclose]
  exact reply_eq ..

theorem durableAdvanced_empty {s : State} (h : s.engine.chunks = []) (n : Nat) :
    durableAdvanced n s = s.mapStream fun t => { t with durableSeen := some n } :=
  settleTest_empty (s := s.mapStream fun t => { t with durableSeen := some n }) h

/-- The commit of the JOB_CLOSE record with no chunk unsettled (R140, R152). -/
theorem commitRecord_close {s : State} {w : RecordWrite} (hkind : w.record.kind = .jobClose)
    (hchunks : s.engine.chunks = []) :
    commitRecord w s = journalClosed { s with
      journal := { s.journal with
        appendPoint := w.slot + 1, slotSpent := false, durable := some w.record.seq, consecutiveFailures := 0
        op := .waiting }
      stream := { s.stream with durableSeen := some w.record.seq } } := by
  have hdue : (s.journal.jobOpenDue && w.record.kind != .jobOpen) = s.journal.jobOpenDue := by
    rw [hkind]
    exact Bool.and_true _
  have hring : ¬ w.record.kind.fromRing = true := by rw [hkind]; exact Bool.false_ne_true
  have hfirst : commitFirst w s = { s with
      journal := { s.journal with
        appendPoint := w.slot + 1, slotSpent := false, durable := some w.record.seq, consecutiveFailures := 0
        op := .waiting }
      stream := { s.stream with durableSeen := some w.record.seq } } := by
    refine (if_neg hring).trans ((durableAdvanced_empty (by exact hchunks) _).trans ?_)
    simp only [State.mapJournal, State.mapStream, hdue]
  rw [← hfirst]
  exact if_pos hkind

/-! ## The evaluation of a close in PASSING (R83) -/

/-- An evaluation over an empty window resolves nothing and ends at once. -/
theorem evaluateOn_empty (d : Dict) (chunks : Nat) (cache : List (List Code × LookupResult)) :
    evaluateOn d chunks ⟨EvalRun.begin true [], cache⟩ = .done ⟨{ EvalRun.begin true [] with parsing := true }, cache⟩ [] :=
  rfl

/-- A cache whose keys are sequences holds no run of an empty window. -/
theorem trimCache_empty {cache : List (List Code × LookupResult)} (h : ∀ x ∈ cache, x.1 ≠ []) :
    trimCache cache [] = [] :=
  List.filter_eq_nil_iff.2 fun x hx hrun => h x hx (List.isEmpty_iff.1 hrun)

/-- With its close step done the engine drains after an evaluation (R71). -/
theorem nextAfter_drains {f : Finish} {s : State} (hre : s.engine.reevaluationPending = false)
    (hmark : f.markOwed = false) (hclose : f.closeStep = true) (hroom : s.engine.window.length < 24) :
    nextAfter f false s = (s.mapEngine fun e => { e with state := .draining }).mapJob fun j =>
      { j with translationDrained := true } := by
  have hfits : ¬ Config.windowStrokes ≤ s.engine.window.length := Nat.not_le.2 hroom
  simp only [nextAfter, hre, hmark, hclose, hfits, Bool.false_and, Bool.or_self, Bool.false_eq_true,
    if_false, if_true]

/-- The engine once the close has found nothing more to translate (R71, R83). -/
def Engine.drained (e : Engine) : Engine :=
  { e with state := .draining, cache := [], timerDue := none, forceOwed := false, run := none }

/-- The end of the evaluation of a close with nothing held. -/
theorem endEvaluation_drains {s : State} (hclose : s.engine.closeMark = true) (hring : s.ring.drainedTranslation = true)
    (hwindow : s.engine.window = []) (hchunks : s.engine.chunks = []) (htail : s.engine.tail = [])
    (hheld : s.engine.heldMark = none) (hre : s.engine.reevaluationPending = false)
    (hcache : ∀ x ∈ s.engine.cache, x.1 ≠ []) :
    endEvaluation { EvalRun.begin true [] with parsing := true } [] s =
      { s with engine := s.engine.drained, job := { s.job with translationDrained := true } } := by
  have hfinish : finishChunks s { EvalRun.begin true [] with parsing := true } = ⟨[], [], none, false, true⟩ := by
    simp only [finishChunks, hheld, hclose, hring, hchunks]
    rfl
  have hedits (t : State) : handEdits s.engine.resolvedEnd [] ([] ++ []) t = t := handEdits_same _ _ t
  simp only [endEvaluation, hfinish, htail, joinAll, List.map_nil, List.flatten_nil, hedits]
  rw [settleTest_empty rfl]
  refine Eq.trans (nextAfter_drains ?_ ?_ ?_ ?_) ?_
  · exact hre
  · rfl
  · rfl
  · exact Nat.zero_lt_succ 23
  · have hwork : (EvalRun.begin true []).work = [] := rfl
    have hcut : (EvalRun.begin true []).cut = false := rfl
    simp only [State.mapEngine, State.mapJob, Engine.drained, hwindow, hchunks, htail, hheld, hwork, hcut,
      trimCache_empty hcache, Option.isSome_none, Bool.or_self, Bool.and_false]
    rfl

/-- The state in which a JOB_CLOSE has been taken (R173). -/
def State.closing (s : State) (tag : Byte) : State :=
  { s with
    job := { s.job with state := .closing, closePending := some tag, translationDrained := false }
    engine := { s.engine with closeMark := true }
    journal := { s.journal with closePending := true }
    link := s.link.withTaken }

/-- The state in which the engine has found nothing more to translate in a close. -/
def State.closeDrained (s : State) (tag : Byte) : State :=
  { s.closing tag with
    engine := { s.engine with closeMark := true }.drained
    job := { (s.closing tag).job with translationDrained := true } }

/-- In PASSING with nothing waiting the blocks take the close through to its end in the same step (R83, R152). -/
theorem runBlocks_closes {s : State} (tag : Byte) (hq : s.quiet) (hmode : s.journal.mode = .passing)
    (hop : s.journal.op = .waiting) (hscan : s.journal.scan = none) (haborting : s.journal.aborting = false)
    (hamend : s.journal.amendments = []) (hentries : s.ring.entries = []) (hholding : s.ring.holding = none)
    (htranslation : s.ring.translationCursor = s.ring.nextSeq) (hjournal : s.ring.journalCursor = s.ring.nextSeq)
    (hstate : s.engine.state = .waiting) (hwindow : s.engine.window = []) (hchunks : s.engine.chunks = [])
    (htail : s.engine.tail = []) (hheld : s.engine.heldMark = none) (hre : s.engine.reevaluationPending = false)
    (hcache : ∀ x ∈ s.engine.cache, x.1 ≠ []) (hlookup : s.dict.lookup = none) :
    runBlocks (s.closing tag) = journalClosed (s.closeDrained tag) := by
  have hring : s.ring.drainedTranslation = true := by
    simp only [Ring.drainedTranslation, htranslation, hholding, BEq.rfl, Option.isNone_none, Bool.and_self]
  have hringJ : s.ring.drainedJournal = true := by
    simp only [Ring.drainedJournal, hjournal, hholding, BEq.rfl, Option.isNone_none, Bool.and_self]
  have hnoRecord (n : Nat) : s.ring.recordAt n = none := by rw [Ring.recordAt, hentries]; rfl
  have hrun : s.engine.run = none := by
    obtain ⟨⟨heval, -, -, -, -⟩, -, -⟩ := (quiet_iff s).1 hq
    exact ((evaluationStep_none s).1 heval).resolve_right fun h => h hlookup
  let begun : State := { s.closing tag with engine := { s.engine with
    closeMark := true, state := .evaluating, timerDue := none, forceOwed := true
    run := some (EvalRun.begin true []) } }
  let evaluated : State := { s.closing tag with engine := { s.engine with
    closeMark := true, state := .evaluating, timerDue := none, forceOwed := true
    run := some { EvalRun.begin true [] with parsing := true } } }
  let drained : State := s.closeDrained tag
  have hdrain : drainStep (s.closing tag) = some begun := by
    have hdue : (s.closing tag).engine.state = .waiting ∧ (s.closing tag).engine.closeMark ∧
      (s.closing tag).ring.drainedTranslation := ⟨hstate, rfl, hring⟩
    refine (if_pos hdue).trans (congrArg some ?_)
    simp only [beginEvaluation, Engine.beginEvaluation, State.mapEngine, State.closing, hwindow, Bool.or_true, begun]
  have hevaluate : evaluationStep begun = some drained := by
    have hadvance : evaluationStep begun = some (advanceEvaluation (EvalRun.begin true []) begun) := by
      have hlookup' : begun.dict.lookup = none := hlookup
      simp only [evaluationStep, hlookup']
      rfl
    have hend : advanceEvaluation (EvalRun.begin true []) begun =
        endEvaluation { EvalRun.begin true [] with parsing := true } [] evaluated := by
      simp only [advanceEvaluation, evaluateOn_empty]
      rfl
    rw [hadvance, hend, endEvaluation_drains (s := evaluated) rfl hring hwindow hchunks htail hheld hre hcache]
    rfl
  have hclose : journalStep drained = some (journalClosed drained) := by
    have hdue : closeDue drained = true := by
      have hdrainedJ : drained.ring.drainedJournal = true := hringJ
      have hnone : drained.journal.amendments = [] := hamend
      rw [closeDue, hdrainedJ, hnone]
      rfl
    have hfree : ¬ (drained.journal.op ≠ .waiting ∨ drained.journal.scan.isSome ∨ drained.journal.aborting) := by
      rintro (h | h | h)
      · exact h hop
      · exact Bool.false_ne_true ((congrArg Option.isSome hscan).symm.trans h)
      · exact Bool.false_ne_true (haborting.symm.trans h)
    have hmode' : drained.journal.mode = .passing := hmode
    have hring' : drained.ring.recordAt drained.ring.journalCursor = none := hnoRecord _
    refine (if_neg hfree).trans ?_
    simp only [hmode', hring']
    exact if_pos hdue
  have hquiet : (journalClosed drained).quiet := by
    rw [journalClosed_eq (s := drained) (tag := tag) hchunks rfl]
    exact quiet_idle hq rfl (by intro h; cases h) rfl rfl rfl rfl rfl
  have hbound : cascadeBound = 4093 + 1 + 1 + 1 := rfl
  have hstep1 := internalStep_drains ((evaluationStep_none (s.closing tag)).2 (.inl hrun))
    ((takeStep_none (s.closing tag)).2 fun _ _ => hnoRecord _) hdrain
  have hstep2 := internalStep_evaluates hevaluate
  have hstep3 := internalStep_journal ((evaluationStep_none drained).2 (.inl rfl))
    ((takeStep_none drained).2 fun h => by cases h) ((drainStep_none drained).2 fun h => by cases h.1) hclose
  rw [runBlocks, hbound, cascade_step _ hstep1, cascade_step _ hstep2, cascade_step _ hstep3, cascade_quiet hquiet]

/-- The summary of a close (R174, R181). -/
theorem closeSummary_eq (s : State) (mode : JournalMode) (cause : JournalCause) :
    closeSummary s mode cause =
      be16 s.job.number ++ be32 s.ring.nextSeq ++
        be32 (match s.journal.durable with | some n => n + 1 | none => 0) ++ be32 s.ring.lost ++
        be32 s.job.discarded ++ be32 s.journal.amendmentsDropped ++
        [journalModeCode mode, journalCauseCode cause, if s.stream.unrecordedPoint = none then 0x00 else 0x01] := by
  have hpoint : boolCode s.stream.unrecordedPoint.isSome =
      if s.stream.unrecordedPoint = none then 0x00 else 0x01 := by
    cases s.stream.unrecordedPoint <;> rfl
  rw [closeSummary, hpoint] <;> rfl

/-- The reply of a close, with its code (R181). -/
theorem closeReply_eq {s : State} {mode : JournalMode} {cause : JournalCause} {durable : Nat}
    (hd : (match s.journal.durable with | some n => n + 1 | none => 0) = durable) :
    0x00 :: closeSummary s mode cause =
      [0x00] ++ be16 s.job.number ++ be32 s.ring.nextSeq ++ be32 durable ++ be32 s.ring.lost ++
        be32 s.job.discarded ++ be32 s.journal.amendmentsDropped ++
        [journalModeCode mode, journalCauseCode cause, if s.stream.unrecordedPoint = none then 0x00 else 0x01] := by
  rw [closeSummary_eq, ← hd]
  simp only [List.append_assoc, List.cons_append, List.nil_append]

/-- Settles O48. -/
theorem jobCloseIsTaken : Obligations.JobCloseIsTaken := by
  unfold Obligations.JobCloseIsTaken
  intro summary
  refine ⟨fun tag s hs => ?_, ?_⟩
  · have hexec : exec (.jobClose tag []) s = .next (askJobClose ⟨kindJobClose, tag⟩ [] (s.mapLink Link.withTaken)) :=
      exec_serves hs rfl rfl
    have htaken (hopened : s.job.state = .opened) :
        exec (.jobClose tag []) s = .next (runBlocks (s.closing tag)) :=
      hexec.trans (congrArg Host.Outcome.next (if_pos hopened))
    refine ⟨fun hno => hexec.trans (congrArg Host.Outcome.next ((if_neg hno).trans
        (answer_taken_answering kindJobClose tag .state [] s))),
      fun hopened hq hbusy => (htaken hopened).trans (congrArg Host.Outcome.next ?_), ?_⟩
    · exact runBlocks_quiet (quiet_busy (t := s.closing tag) hq hbusy.1 hbusy.2 rfl rfl rfl rfl rfl rfl)
    · intro hopened hq hmode hop hscan haborting hamend hentries hholding htranslation hjournal hstate hwindow hchunks
        htail hheld hre hcache hlookup
      refine (htaken hopened).trans (congrArg Host.Outcome.next ?_)
      rw [runBlocks_closes tag hq hmode hop hscan haborting hamend hentries hholding htranslation hjournal hstate
        hwindow hchunks htail hheld hre hcache hlookup]
      refine (journalClosed_eq (s := s.closeDrained tag) (tag := tag) hchunks rfl).trans ?_
      rw [closeReply_eq rfl, ← hop]
      have hmode' : (s.closeDrained tag).journal.mode = .passing := hmode
      simp only [hmode']
      rfl
  · intro s w tag addr deadline flips hf hq hop hkind hscan haborting hmode hcause hclose hchunks hrun hc hback
    have hread := exec_readComplete_journal (flips := flips) hf hscan haborting
    have hok : readsBack statusCommitted (s.device.got addr 1 flips) = true := beq_iff_eq.2 hback
    let committed : State := { s.freed s.device with
      journal := { s.journal with
        appendPoint := w.slot + 1, slotSpent := false, durable := some w.record.seq, consecutiveFailures := 0
        op := .waiting }
      stream := { s.stream with durableSeen := some w.record.seq } }
    have hcommit : commitRecord w (s.freed s.device) = journalClosed committed :=
      commitRecord_close (s := s.freed s.device) hkind hchunks
    rw [workOutcome_check hop, if_pos hok, hcommit, journalClosed_eq (s := committed) (tag := tag) hchunks hclose]
      at hread
    refine hread.trans (congrArg Host.Outcome.next ?_)
    rw [closeReply_eq (durable := w.record.seq + 1) rfl]
    have hmode' : committed.journal.mode = .running := hmode
    have hcause' : committed.journal.cause = .noCause := hcause
    simp only [hmode', hcause']
    refine runBlocks_nothingAsked ?_ ?_ ?_
    · exact blocksWait_idle (quiet_blocksWait hq) hrun (by intro h; cases h) rfl rfl rfl
    · exact headWaits_congr (s := s) rfl rfl rfl (quiet_headWaits hq)
    · exact hc

end Sys2Proof.Machine
end

section
/-! PROOFS. JOB_ABORT with nothing in hand at the journal (R175, R34, R85, R114, R153). -/

namespace Sys2Proof.Machine

/-- The engine after a job abort (R85, log 52). -/
def Engine.aborted (e : Engine) (settled : Nat) : Engine :=
  { e with
    state := .idle, window := [], cache := [], chunks := [], tail := [], timerDue := none
    resolvedEnd := settled, forceOwed := false, heldMark := none, closeMark := false
    reevaluationPending := false, reachBackPending := false, run := none }

/-- The engine's part of an abort where no lookup is at the port. -/
theorem engineJobAbort_eq {s : State} (hrequest : s.port.translationRequest = none)
    (hflight : ∀ f, s.port.inFlight = some f → f.requester ≠ .translation) :
    engineJobAbort s = { s with
      dict := { s.dict with lookup := none }, engine := s.engine.aborted s.stream.settled } := by
  have hkept : (s.port.inFlight.map fun f => if f.requester = .translation then { f with dropped := true } else f) =
      s.port.inFlight := by
    cases hf : s.port.inFlight with
    | none => rfl
    | some f => exact congrArg some (if_neg (hflight f hf))
  have hport : dropInFlight .translation (s.mapPort fun p => { p with translationRequest := none }) = s := by
    simp only [dropInFlight, State.mapPort, hkept]
    rw [← hrequest]
  rw [engineJobAbort, hport]
  rfl

/-- A seek ends early where none is queued or in hand. -/
theorem endSeekEarly_eq {s : State} (hop : s.journal.op = .waiting)
    (hitems : ∀ i ∈ s.port.items, LinkItem.isSeek i = false) : endSeekEarly s = s := by
  have hhead : (s.port.items.head?.any LinkItem.isSeek) = false := by
    cases hlist : s.port.items with
    | nil => rfl
    | cons i rest => exact hitems i (by rw [hlist]; exact List.mem_cons_self)
  have hall : (s.port.items.filter fun i => !i.isSeek) = s.port.items :=
    List.filter_eq_self.2 fun i hi => by rw [hitems i hi]; rfl
  simp only [endSeekEarly, hhead, Bool.and_false, Bool.false_eq_true, if_false, State.mapJournal, State.mapPort, hop,
    Bool.not_false, Bool.and_true, hall]
  have hwaiting : (if JournalOp.waiting = JournalOp.seeking then JournalOp.waiting else .waiting) = s.journal.op :=
    (ite_self _).trans hop.symm
  rw [hwaiting]

/-- The journal's part of an abort with nothing in hand (R153). -/
theorem journalAbort_eq {s : State} (hop : s.journal.op = .waiting) (hchunks : s.engine.chunks = [])
    (hitems : ∀ i ∈ s.port.items, LinkItem.isSeek i = false) :
    journalAbort s = { s with
      journal := { s.journal with
        amendments := [], closePending := false, rewriteDue := none, jobOpenDue := false, mode := .idle
        cause := .noCause, slotSpent := false, appendPoint := s.journal.appendAfterUsed }
      stream := { s.stream with modeSeen := .idle } } := by
  let u : State := { s with journal := { s.journal with
    amendments := [], closePending := false, rewriteDue := none, jobOpenDue := false, mode := .idle
    cause := .noCause, slotSpent := false, appendPoint := s.journal.appendAfterUsed } }
  have hseek : endSeekEarly u = u := endSeekEarly_eq (s := u) hop hitems
  have hmode : modeChanged .idle u = { u with stream := { s.stream with modeSeen := .idle } } :=
    settleTest_empty (s := u.mapStream fun t => { t with modeSeen := .idle }) hchunks
  have habort : journalAbort s =
      if (modeChanged .idle (endSeekEarly u)).journal.op = .waiting then modeChanged .idle (endSeekEarly u)
      else if (modeChanged .idle (endSeekEarly u)).port.journalInFlight then
        (modeChanged .idle (endSeekEarly u)).mapJournal fun j => { j with aborting := true }
      else abortWithdrawn (modeChanged .idle (endSeekEarly u)) := rfl
  rw [hseek, hmode] at habort
  exact habort.trans (if_pos hop)

/-- The state in which a JOB_ABORT has been taken: its reply is still due (R175). -/
def State.aborted (s : State) (a : AbortPending) (l : Link) : State :=
  { s with
    ring := s.ring.abort
    engine := s.engine.aborted s.stream.settled
    dict := { s.dict with lookup := none }
    stream := { s.stream with modeSeen := .idle }
    journal := { s.journal with
      amendments := [], closePending := false, rewriteDue := none, jobOpenDue := false, mode := .idle
      cause := .noCause, slotSpent := false, appendPoint := s.journal.appendAfterUsed }
    job := { s.job with state := .noJob, closePending := none, abortPending := some a }
    link := l }

/-- The link controller with a JOB_CLOSE still pending answered STATE (R175). -/
def State.closeRefused (s : State) : Link :=
  match s.job.closePending with
  | some close => s.link.withReply s.now kindJobClose close [0x02]
  | none => s.link

theorem abortTaken_eq {s : State} (tag : Byte) (hop : s.journal.op = .waiting)
    (hsettled : s.stream.settled = s.stream.length) (hrequest : s.port.translationRequest = none)
    (hflight : ∀ f, s.port.inFlight = some f → f.requester ≠ .translation)
    (hitems : ∀ i ∈ s.port.items, LinkItem.isSeek i = false) :
    abortTaken tag s = s.aborted ⟨tag, s.ring.unjournaled⟩ s.closeRefused := by
  let u : State := { s with
    ring := s.ring.abort, dict := { s.dict with lookup := none }, engine := s.engine.aborted s.stream.settled }
  have hengine : engineJobAbort (s.mapRing Ring.abort) = u :=
    engineJobAbort_eq (s := s.mapRing Ring.abort) hrequest hflight
  have hstream : streamJobAbort u = u := if_neg (Nat.not_lt.2 (Nat.le_of_eq hsettled.symm))
  have hjournal := journalAbort_eq (s := u) hop rfl hitems
  simp only [abortTaken, hengine, hstream, hjournal, State.closeRefused]
  cases hclose : s.job.closePending with
  | none => rfl
  | some close =>
    simp only [reply_eq]
    rfl

/-- With the journal's abort work done the JOB_ABORT is answered in the same step, and no block goes on (R175). -/
theorem runBlocks_aborted {s : State} {closed : Link} (tag : Byte) (abandoned : Nat) (hq : s.quiet)
    (haborting : s.journal.aborting = false) :
    runBlocks (s.aborted ⟨tag, abandoned⟩ closed) =
      { s.aborted ⟨tag, abandoned⟩ (closed.withReply s.now kindJobAbort tag (0x00 :: be32 abandoned)) with
        job := { s.job with state := .noJob, closePending := none, abortPending := none } } := by
  let t := s.aborted ⟨tag, abandoned⟩ closed
  let v : State := { s.aborted ⟨tag, abandoned⟩ (closed.withReply s.now kindJobAbort tag (0x00 :: be32 abandoned)) with
    job := { s.job with state := .noJob, closePending := none, abortPending := none } }
  have hreply : abortStep t = some v := by
    have habort : abortStep t = if t.journal.aborting then none else
        some (reply kindJobAbort tag .ok (be32 abandoned) (t.mapJob fun j => { j with abortPending := none })) := rfl
    rw [habort, reply_eq]
    exact if_neg (by rw [show t.journal.aborting = false from haborting]; exact Bool.false_ne_true)
  have hjournal : journalStep t = none := by
    have hmode : t.journal.mode = .idle := rfl
    simp only [journalStep, hmode, ite_self]
  have hstep := internalStep_aborts ((evaluationStep_none t).2 (.inl rfl)) ((takeStep_none t).2 fun h => by cases h)
    ((drainStep_none t).2 fun h => by cases h.1) hjournal hreply
  have hwait : v.blocksWait :=
    ⟨(evaluationStep_none v).2 (.inl rfl), (takeStep_none v).2 (fun h => by cases h),
      (drainStep_none v).2 (fun h => by cases h.1), hjournal, (abortStep_none v).2 (.inl rfl)⟩
  obtain ⟨-, hhead, hgrant⟩ := (quiet_iff s).1 hq
  have hquiet : v.quiet := (quiet_iff v).2 ⟨hwait,
    (headStep_none v).2 (headWaits_congr (s := s) rfl rfl rfl ((headStep_none s).1 hhead)),
    (grantStep_none v).2 ((grantStep_none s).1 hgrant)⟩
  exact (cascade_step 4095 hstep).trans (cascade_quiet hquiet _)

/-- Settles O49. -/
theorem jobAbortDiscardsTheWork : Obligations.JobAbortDiscardsTheWork := by
  intro tag s hs closed
  have hexec : exec (.jobAbort tag []) s = .next (askJobAbort ⟨kindJobAbort, tag⟩ [] (s.mapLink Link.withTaken)) :=
    exec_serves hs rfl rfl
  refine ⟨fun hjob => hexec.trans (congrArg Host.Outcome.next ((if_neg ?_).trans
      (answer_taken_answering kindJobAbort tag .state [] s))), ?_⟩
  · have hstill : ¬ s.job.running = true := by rw [Job.running, hjob]; exact Bool.false_ne_true
    exact hstill
  · intro hrunning hq hop haborting hsettled hrequest hflight hitems
    refine (hexec.trans (congrArg Host.Outcome.next (if_pos (running_iff.2 hrunning)))).trans
      (congrArg Host.Outcome.next ?_)
    rw [abortTaken_eq (s := s.mapLink Link.withTaken) tag hop hsettled hrequest hflight hitems]
    have hreplied := runBlocks_aborted (s := s.mapLink Link.withTaken) (closed := closed) tag s.ring.unjournaled
      ((quiet_congr (s := s) (t := s.mapLink Link.withTaken) rfl rfl rfl rfl rfl rfl rfl).2 hq) haborting
    refine hreplied.trans ?_
    have hpoint : s.journal.appendAfterUsed = s.journal.appendPoint + if s.journal.slotSpent then 1 else 0 := by
      unfold Journal.appendAfterUsed
      split <;> rfl
    have hcount : s.ring.unjournaled =
        s.ring.nextSeq - s.ring.journalCursor + if s.ring.holding = none then 0 else 1 := by
      unfold Ring.unjournaled
      cases s.ring.holding <;> rfl
    rw [← hpoint, ← hcount]
    rfl

end Sys2Proof.Machine
end

section
/-! PROOFS. The settings record: its parts, and what reading it back gives (section 11.7, R188, R189). -/

namespace Sys2Proof.Machine

/-! ## Parts of one width -/

/-- The place of an element in parts of one width, whatever follows them. -/
theorem drop_flatMap_append {α : Type} {f : α → List Byte} {w : Nat} (rest : List Byte) :
    ∀ (l : List α) (i : Nat) (hi : i < l.length), (∀ x ∈ l, (f x).length = w) →
      ∃ more, (l.flatMap f ++ rest).drop (w * i) = f l[i] ++ more
  | x :: xs, 0, _, _ => ⟨xs.flatMap f ++ rest, by rw [Nat.mul_zero, List.drop_zero, List.flatMap_cons, List.append_assoc]; rfl⟩
  | x :: xs, i + 1, hi, hw => by
    obtain ⟨more, h⟩ := drop_flatMap_append rest xs i (Nat.lt_of_succ_lt_succ hi)
      fun y hy => hw y (List.mem_cons_of_mem x hy)
    have hx : w = (f x).length := (hw x List.mem_cons_self).symm
    have hplace : w * (i + 1) = (f x).length + w * i := by rw [← hx, Nat.mul_add, Nat.mul_one, Nat.add_comm]
    refine ⟨more, ?_⟩
    rw [List.flatMap_cons, List.append_assoc, hplace, ← List.drop_drop, List.drop_left]
    exact h

theorem length_flatMap_width {α : Type} {f : α → List Byte} {w : Nat} :
    ∀ l : List α, (∀ x ∈ l, (f x).length = w) → (l.flatMap f).length = w * l.length
  | [], _ => rfl
  | x :: xs, hw => by
    rw [List.flatMap_cons, List.length_append, hw x List.mem_cons_self,
      length_flatMap_width xs fun y hy => hw y (List.mem_cons_of_mem x hy), List.length_cons, Nat.mul_add, Nat.mul_one,
      Nat.add_comm]

theorem byteAt_drop (bs : List Byte) (n i : Nat) : byteAt bs (n + i) = byteAt (bs.drop n) i := by
  simp only [byteAt, List.getD_eq_getElem?_getD, List.getElem?_drop]

/-! ## Codes read back -/

theorem toNat_byte {n : Nat} (h : n < 256) : (BitVec.ofNat 8 n).toNat = n := by
  rw [BitVec.toNat_ofNat]; omega

theorem beValue_be16 {n : Nat} (h : n < 65536) : beValue (be16 n) = n := by
  rw [be16, beValue_two]
  simp only [BitVec.toNat_ofNat]
  omega

theorem clamp_inRange {low high n : Nat} (hl : low ≤ n) (hh : n ≤ high) : clamp low high n = n := by
  simp only [clamp]
  omega

theorem boolOf_boolCode (b : Bool) : boolOf (boolCode b) = some b := by cases b <;> rfl

theorem modeOf_modeCode (m : ProfileMode) : modeOf (modeCode m) = some m := by cases m <;> rfl

theorem profileOf_profileCode (p : ProfileId) : profileOf (profileCode p) = some p := by cases p <;> rfl

theorem speedOf_speedCode (v : LineSpeed) : speedOf (speedCode v) = some v := by cases v <;> rfl

/-! ## The record's content -/

/-- The content of the settings record, part by part. -/
def settingsParts (s : State) : List Byte :=
  paramsPart s.params ++ (s.keys.channels.flatMap (fun c => [boolCode c.enable] ++ be8 c.downLevel) ++
    (profilePart s.feeds.profileA ++ (profilePart s.feeds.profileB ++ (profilePart s.feeds.profileC ++
    (allPorts.flatMap (fun i => portPart i (s.feeds.port i)) ++
    (allLayers.flatMap (fun i => layerPart (s.dict.layer i)) ++ s.params.marks.flatMap markPart))))))

/-- The record without its first two bytes and its check. -/
def settingsBody (s : State) : List Byte := [0x01] ++ be16 settingsContent ++ settingsParts s

theorem settingsRecord_eq (s : State) :
    settingsRecord s = [0x5A, 0xC3] ++ settingsBody s ++ crcBytes (settingsBody s) := by
  have hbody : settingsBody s = [0x01] ++ be16 settingsContent ++ paramsPart s.params ++
      s.keys.channels.flatMap (fun c => [boolCode c.enable] ++ be8 c.downLevel) ++
      profilePart s.feeds.profileA ++ profilePart s.feeds.profileB ++ profilePart s.feeds.profileC ++
      allPorts.flatMap (fun i => portPart i (s.feeds.port i)) ++
      allLayers.flatMap (fun i => layerPart (s.dict.layer i)) ++ s.params.marks.flatMap markPart := by
    simp only [settingsBody, settingsParts, List.append_assoc]
  rw [settingsRecord, hbody]
  rfl

/-- A mark table entry takes 35 bytes. -/
theorem markPart_length {e : Option MarkEntry} (h : e.all (fun m => m.text.length ≤ 32) = true) :
    (markPart e).length = 35 := by
  cases e with
  | none => rfl
  | some m =>
    have hlength : m.text.length ≤ 32 := by simpa using h
    simp only [markPart, be8, List.length_append, List.length_cons, List.length_nil, List.length_replicate]
    omega

/-- A mark table entry in its range is read back (R75). -/
theorem loadedMark_markPart {e : Option MarkEntry}
    (h : e.all (fun m => markFlagsValid m.flags && m.text.length ≤ 32 && m.text.all textByte) = true) :
    loadedMark (markPart e) = e := by
  cases e with
  | none => rfl
  | some m =>
    simp only [Option.all_some, Bool.and_eq_true, decide_eq_true_eq] at h
    obtain ⟨⟨hflags, hlength⟩, htext⟩ := h
    have hcount : min (byteAt (markPart (some m)) 2).toNat 32 = m.text.length := by
      change min (BitVec.ofNat 8 m.text.length).toNat 32 = _
      rw [toNat_byte (by omega), Nat.min_eq_left hlength]
    have hdrop : (markPart (some m)).drop 3 = m.text ++ List.replicate (32 - m.text.length) Config.settingsFill := by
      rw [markPart, List.append_assoc]
      rfl
    have hread : ((markPart (some m)).drop 3).take (min (byteAt (markPart (some m)) 2).toNat 32) = m.text := by
      rw [hcount, hdrop, List.take_left]
    rw [loadedMark, hread]
    exact if_pos ⟨rfl, hflags, htext⟩

/-! ## Where the parts lie -/

/-- After a part comes what follows it. -/
theorem drop_past {c a b : List Byte} {k n : Nat} (h : c.drop k = a ++ b) (hn : a.length = n) : c.drop (k + n) = b := by
  rw [← List.drop_drop, h, ← hn, List.drop_left]

/-- The content from the channels on, from the profiles on, from the ports on, from the layers on, and the
marks. -/
theorem settingsParts_places {s : State} (hchannels : s.keys.channels.length = 23) :
    let layers := allLayers.flatMap (fun i => layerPart (s.dict.layer i)) ++ s.params.marks.flatMap markPart
    let ports := allPorts.flatMap (fun i => portPart i (s.feeds.port i)) ++ layers
    let c := settingsParts s
    c.drop 17 = s.keys.channels.flatMap (fun c => [boolCode c.enable] ++ be8 c.downLevel) ++ c.drop 63 ∧
    c.drop 63 = profilePart s.feeds.profileA ++ c.drop 70 ∧ c.drop 70 = profilePart s.feeds.profileB ++ c.drop 77 ∧
    c.drop 77 = profilePart s.feeds.profileC ++ c.drop 84 ∧ c.drop 84 = ports ∧ c.drop 99 = layers ∧
    c.drop 114 = s.params.marks.flatMap markPart := by
  intro layers ports c
  have hwidth : (s.keys.channels.flatMap (fun c => [boolCode c.enable] ++ be8 c.downLevel)).length = 46 :=
    (length_flatMap_width (w := 2) _ fun _ _ => rfl).trans (by rw [hchannels])
  have h0 : c.drop 0 = paramsPart s.params ++ _ := rfl
  have h17 : c.drop 17 = _ := drop_past h0 rfl
  have h63 : c.drop 63 = _ := drop_past h17 hwidth
  have h70 : c.drop 70 = _ := drop_past h63 rfl
  have h77 : c.drop 77 = _ := drop_past h70 rfl
  have h84 : c.drop 84 = _ := drop_past h77 rfl
  have h99 : c.drop 99 = layers := drop_past h84 rfl
  have h114 : c.drop 114 = _ := drop_past h99 rfl
  exact ⟨by rw [h63]; exact h17, by rw [h70]; exact h63, by rw [h77]; exact h70, by rw [h84]; exact h77, h84, h99, h114⟩

/-- Every entry of a mark table in range takes 35 bytes. -/
theorem markPart_lengths {p : Params} (h : p.inRange) : ∀ e ∈ p.marks, (markPart e).length = 35 := by
  obtain ⟨-, -, -, -, -, -, -, -, -, -, -, -, hmarks⟩ := h
  intro e he
  refine markPart_length (Option.all_eq_true _ _ |>.mpr fun m hm => ?_)
  have hm' := Option.all_eq_true _ _ |>.mp (hmarks e he) m hm
  rw [Bool.and_eq_true, Bool.and_eq_true] at hm'
  exact hm'.1.2

theorem settingsParts_length {s : State} (hs : s.settingsInRange) : (settingsParts s).length = settingsContent := by
  obtain ⟨hparams, -, hchannels, -⟩ := hs
  obtain ⟨-, -, -, -, -, -, h114⟩ := settingsParts_places hchannels
  have hmarks : s.params.marks.length = 16 := by
    obtain ⟨-, -, -, -, -, -, -, -, -, -, -, hmarks, -⟩ := hparams
    exact hmarks
  have hrest : ((settingsParts s).drop 114).length = 560 := by
    rw [h114, length_flatMap_width _ (markPart_lengths hparams), hmarks]
  rw [List.length_drop] at hrest
  change _ = 674
  omega

/-! ## The record -/

theorem settingsBody_length {s : State} (hs : s.settingsInRange) : (settingsBody s).length = 677 := by
  rw [settingsBody, List.length_append, settingsParts_length hs]
  rfl

theorem settingsRecord_length {s : State} (hs : s.settingsInRange) : (settingsRecord s).length = 681 := by
  rw [settingsRecord_eq, List.length_append, List.length_append, settingsBody_length hs]
  rfl

/-- The record holds its content behind its first five bytes. -/
theorem settingsRecord_content {s : State} (hs : s.settingsInRange) :
    ((settingsRecord s).drop 5).take settingsContent = settingsParts s := by
  have hdrop : (settingsRecord s).drop 5 = settingsParts s ++ crcBytes (settingsBody s) := by
    rw [settingsRecord_eq]
    rfl
  rw [hdrop, ← settingsParts_length hs, List.take_left]

/-- The record built is valid (R188, R189). -/
theorem settingsValid_settingsRecord {s : State} (hs : s.settingsInRange) : settingsValid (settingsRecord s) = true := by
  have hbody : ((settingsRecord s).drop 2).take 677 = settingsBody s := by
    rw [settingsRecord_eq, ← settingsBody_length hs]
    exact List.take_left
  have hcheck : ((settingsRecord s).drop 679).take 2 = crcBytes (settingsBody s) := by
    have hbefore : ([0x5A, 0xC3] ++ settingsBody s).length = 679 := by
      rw [List.length_append, settingsBody_length hs]
      rfl
    rw [settingsRecord_eq, ← hbefore, List.drop_left]
    rfl
  have hlength : fieldAt (settingsRecord s) 3 2 = settingsContent := by
    rw [settingsRecord_eq]
    rfl
  have hstart : byteAt (settingsRecord s) 0 = 0x5A ∧ byteAt (settingsRecord s) 1 = 0xC3 ∧
      byteAt (settingsRecord s) 2 = 0x01 := by
    rw [settingsRecord_eq]
    exact ⟨rfl, rfl, rfl⟩
  obtain ⟨h0, h1, h2⟩ := hstart
  simp only [settingsValid, hbody, hcheck, hlength, h0, h1, h2, beq_self_eq_true, Bool.and_self]

/-! ## The parts read back -/

/-- A profile in range is read back from its part (R116). -/
theorem loadedProfile_profilePart {default q : Profile} (more : List Byte) (hrate : 10 ≤ q.rate ∧ q.rate ≤ 960)
    (hburst : 1 ≤ q.burst ∧ q.burst ≤ 64) (hdepth : q.refreshDepth ≤ 2048) :
    loadedProfile default (profilePart q ++ more) = q := by
  have hmode : (modeOf (byteAt (profilePart q ++ more) 0)).getD default.mode = q.mode :=
    congrArg (Option.getD · default.mode) (modeOf_modeCode q.mode)
  have hr : clamp 10 960 (fieldAt (profilePart q ++ more) 1 2) = q.rate :=
    (congrArg (clamp 10 960) (beValue_be16 (by omega))).trans (clamp_inRange hrate.1 hrate.2)
  have hb : clamp 1 64 (byteAt (profilePart q ++ more) 3).toNat = q.burst :=
    (congrArg (clamp 1 64) (toNat_byte (by omega))).trans (clamp_inRange hburst.1 hburst.2)
  have hhold : (boolOf (byteAt (profilePart q ++ more) 4)).getD default.hold = q.hold :=
    congrArg (Option.getD · default.hold) (boolOf_boolCode q.hold)
  have hd : clamp 0 2048 (fieldAt (profilePart q ++ more) 5 2) = q.refreshDepth :=
    (congrArg (clamp 0 2048) (beValue_be16 (by omega))).trans (clamp_inRange (Nat.zero_le _) hdepth)
  simp only [loadedProfile, hmode, hr, hb, hhold, hd]

/-- A port's enable, profile and, of a viewer port, line speed are read back from its part (R115). -/
theorem loadedPort_portPart {default : ProfileId} {i : PortId} {p : Port} (more : List Byte) :
    let q := loadedPort default (portPart i p ++ more)
    q.enable = p.enable ∧ q.profile = p.profile ∧ (i ≠ .p0 → q.speed = p.speed) := by
  refine ⟨congrArg (Option.getD · true) (boolOf_boolCode p.enable),
    congrArg (Option.getD · default) (profileOf_profileCode p.profile), fun hi => ?_⟩
  have hspeed : speedByte i p = speedCode p.speed := if_neg hi
  have hcode : byteAt (portPart i p ++ more) 2 = speedCode p.speed := hspeed
  exact congrArg (Option.getD · LineSpeed.s38400) ((congrArg speedOf hcode).trans (speedOf_speedCode p.speed))

/-- A layer whose region passes its checks is read back from its part (R35, R189). -/
theorem loadedLayer_layerPart {p : Params} {l : Layer} (more : List Byte) (hbase : l.base < 65536)
    (hok : layerRegionOk l.base l.count = true) (hfree : layerRegionFree p l.base l.count = true)
    (hempty : l.count = 0 → l.enable = false) :
    let q := loadedLayer p (layerPart l ++ more)
    q.base = l.base ∧ q.count = l.count ∧ q.enable = l.enable := by
  have hcount : l.count < 65536 := by
    simp only [layerRegionOk, Bool.or_eq_true, beq_iff_eq, decide_eq_true_eq] at hok
    omega
  have hb : fieldAt (layerPart l ++ more) 0 2 = l.base := beValue_be16 hbase
  have hc : fieldAt (layerPart l ++ more) 2 2 = l.count := beValue_be16 hcount
  have he : (boolOf (byteAt (layerPart l ++ more) 4)).getD false = l.enable :=
    congrArg (Option.getD · false) (boolOf_boolCode l.enable)
  have hcheck : (layerRegionOk l.base l.count && layerRegionFree p l.base l.count && !(l.count == 0 && l.enable)) =
      true := by
    rw [hok, hfree]
    by_cases h0 : l.count = 0
    · rw [hempty h0, Bool.and_false]
      rfl
    · rw [beq_eq_false_iff_ne.mpr h0]
      rfl
  simp only [loadedLayer, hb, hc, he, hcheck, if_true, and_self]

/-- A channel's enable and down level are read back (R3, R11). -/
theorem loadedChannel_enable_downLevel {up : Nat} {c : Channel} (hlow : up + 16 ≤ c.downLevel) (hup : 8 ≤ up)
    (hhigh : c.downLevel ≤ 247) :
    let d := loadedChannel up (boolCode c.enable) (BitVec.ofNat 8 c.downLevel)
    (d.enable, d.downLevel) = (c.enable, c.downLevel) := by
  have he : (boolOf (boolCode c.enable)).getD true = c.enable := congrArg (Option.getD · true) (boolOf_boolCode _)
  have hd : appliedDownLevel up (BitVec.ofNat 8 c.downLevel).toNat = c.downLevel := by
    rw [toNat_byte (by omega), appliedDownLevel, clamp_inRange (by omega) hhigh, Nat.max_eq_left hlow]
  exact Prod.ext he hd

/-- The mark table in range is read back from its parts (R75). -/
theorem loadedMarks {p : Params} (hp : p.inRange) {c : List Byte} (hc : c.drop 114 = p.marks.flatMap markPart) :
    ((List.range 16).map fun m => loadedMark ((c.drop (114 + 35 * m)).take 35)) = p.marks := by
  have hwidth := markPart_lengths hp
  obtain ⟨-, -, -, -, -, -, -, -, -, -, -, hlength, hmarks⟩ := hp
  refine List.ext_getElem (by rw [List.length_map, List.length_range, hlength]) fun i _ hi => ?_
  rw [List.getElem_map, List.getElem_range, ← List.drop_drop, hc]
  obtain ⟨more, hmore⟩ := drop_flatMap_append [] p.marks i hi hwidth
  have hmem : p.marks[i] ∈ p.marks := List.getElem_mem hi
  rw [List.append_nil] at hmore
  rw [hmore, ← hwidth _ hmem, List.take_left]
  exact loadedMark_markPart (hmarks _ hmem)

/-- The bytes of the parameters part, byte by byte and field by field. -/
theorem paramsPart_fields (p : Params) (more : List Byte) :
    let c := paramsPart p ++ more
    (byteAt c 0 = BitVec.ofNat 8 p.upLevel ∧ byteAt c 1 = BitVec.ofNat 8 p.debounce ∧
      byteAt c 4 = BitVec.ofNat 8 p.releaseGuard ∧ byteAt c 5 = boolCode p.strokeCopy ∧
      byteAt c 6 = BitVec.ofNat 8 p.depth ∧ byteAt c 9 = BitVec.ofNat 8 p.trigger ∧
      byteAt c 10 = BitVec.ofNat 8 p.gather ∧ byteAt c 15 = BitVec.ofNat 8 p.lowThreshold ∧
      byteAt c 16 = p.reportMask) ∧
    fieldAt c 2 2 = beValue (be16 p.stuckLimit) ∧ fieldAt c 7 2 = beValue (be16 p.resolvePause) ∧
    fieldAt c 11 2 = beValue (be16 p.journalBase) ∧ fieldAt c 13 2 = beValue (be16 p.journalCount) :=
  by
  have hc : paramsPart p ++ more = BitVec.ofNat 8 p.upLevel :: BitVec.ofNat 8 p.debounce ::
      BitVec.ofNat 8 (p.stuckLimit / 0x100) :: BitVec.ofNat 8 p.stuckLimit :: BitVec.ofNat 8 p.releaseGuard ::
      boolCode p.strokeCopy :: BitVec.ofNat 8 p.depth :: BitVec.ofNat 8 (p.resolvePause / 0x100) ::
      BitVec.ofNat 8 p.resolvePause :: BitVec.ofNat 8 p.trigger :: BitVec.ofNat 8 p.gather ::
      BitVec.ofNat 8 (p.journalBase / 0x100) :: BitVec.ofNat 8 p.journalBase ::
      BitVec.ofNat 8 (p.journalCount / 0x100) :: BitVec.ofNat 8 p.journalCount ::
      BitVec.ofNat 8 p.lowThreshold :: p.reportMask :: more := rfl
  rw [hc]
  exact ⟨⟨rfl, rfl, rfl, rfl, rfl, rfl, rfl, rfl, rfl⟩, rfl, rfl, rfl, rfl⟩

/-- A resolve pause in range is applied as it is (R79). -/
theorem appliedPause_inRange {n : Nat} (h : n = 0 ∨ 100 ≤ n ∧ n ≤ 10000) : appliedPause n = n := by
  simp only [appliedPause, clamp]
  split <;> omega

/-- A trigger level fits a byte (R183). -/
theorem triggerLevel_small {n : Nat} (h : triggerLevel n = true) : n < 256 := by
  simp only [triggerLevel, Bool.or_eq_true, beq_iff_eq] at h
  omega

/-- The parameters in range are read back from their part (R186, R189). -/
theorem loadedParams_paramsPart {p : Params} (hp : p.inRange) {more : List Byte}
    (hc : (paramsPart p ++ more).drop 114 = p.marks.flatMap markPart) : loadedParams (paramsPart p ++ more) = p := by
  have hmarks := loadedMarks hp hc
  obtain ⟨hup, hdebounce, hstuck, hguard, hdepth, hpause, htrigger, hgather, hregion, hlow, hmask, -, -⟩ := hp
  obtain ⟨⟨b0, b1, b4, b5, b6, b9, b10, b15, b16⟩, f2, f7, f11, f13⟩ := paramsPart_fields p more
  have hsmall := triggerLevel_small htrigger
  have hregion' : p.journalBase < 65536 ∧ p.journalCount < 65536 := by
    simp only [journalRegionOk, Bool.and_eq_true, decide_eq_true_eq] at hregion
    omega
  have g2 : fieldAt (paramsPart p ++ more) 2 2 = p.stuckLimit := f2.trans (beValue_be16 (by omega))
  have g7 : fieldAt (paramsPart p ++ more) 7 2 = p.resolvePause := f7.trans (beValue_be16 (by omega))
  have g11 : fieldAt (paramsPart p ++ more) 11 2 = p.journalBase := f11.trans (beValue_be16 hregion'.1)
  have g13 : fieldAt (paramsPart p ++ more) 13 2 = p.journalCount := f13.trans (beValue_be16 hregion'.2)
  simp only [loadedParams, b0, b1, b4, b5, b6, b9, b10, b15, b16, g2, g7, g11, g13, hmarks, hmask, loadedRegion, hregion]
  rw [toNat_byte (n := p.upLevel) (by omega), toNat_byte (n := p.debounce) (by omega),
    toNat_byte (n := p.releaseGuard) (by omega), toNat_byte (n := p.depth) (by omega), toNat_byte hsmall,
    toNat_byte (n := p.gather) (by omega), toNat_byte (n := p.lowThreshold) (by omega), boolOf_boolCode,
    clamp_inRange hup.1 hup.2, clamp_inRange hdebounce.1 hdebounce.2, clamp_inRange hstuck.1 hstuck.2,
    clamp_inRange (Nat.zero_le _) hguard, clamp_inRange (Nat.zero_le _) hdepth, clamp_inRange hgather.1 hgather.2,
    clamp_inRange hlow.1 hlow.2, appliedPause_inRange hpause, htrigger]
  rfl

/-- The parameters in range are read back from the content. -/
theorem loadedParams_settingsParts {s : State} (hs : s.settingsInRange) : loadedParams (settingsParts s) = s.params := by
  obtain ⟨hp, -, hchannels, -⟩ := hs
  obtain ⟨-, -, -, -, -, -, h114⟩ := settingsParts_places hchannels
  exact loadedParams_paramsPart hp h114

/-- The channel table in range is read back: every enable and down level (R11, R189). -/
theorem loadedKeys_settingsParts {s : State} (hs : s.settingsInRange) :
    (loadedKeys s.params.upLevel (settingsParts s)).channels.map (fun c => (c.enable, c.downLevel)) =
      s.keys.channels.map (fun c => (c.enable, c.downLevel)) := by
  obtain ⟨hp, hlevels, hchannels, hhigh, -⟩ := hs
  obtain ⟨h17, -⟩ := settingsParts_places hchannels
  obtain ⟨hup, -⟩ := hp
  refine List.ext_getElem (by simp only [loadedKeys, List.length_map, List.length_range, hchannels]) fun i _ hi => ?_
  rw [List.length_map] at hi
  obtain ⟨more, hmore⟩ := drop_flatMap_append (f := fun c => [boolCode c.enable] ++ be8 c.downLevel) (w := 2)
    ((settingsParts s).drop 63) s.keys.channels i hi fun _ _ => rfl
  have hplace : (settingsParts s).drop (17 + 2 * i) = [boolCode s.keys.channels[i].enable] ++
      be8 s.keys.channels[i].downLevel ++ more := by
    rw [← List.drop_drop, h17]
    exact hmore
  have henable : byteAt (settingsParts s) (17 + 2 * i) = boolCode s.keys.channels[i].enable := by
    rw [← Nat.add_zero (17 + 2 * i), byteAt_drop, hplace]
    rfl
  have hdown : byteAt (settingsParts s) (18 + 2 * i) = BitVec.ofNat 8 s.keys.channels[i].downLevel := by
    rw [show 18 + 2 * i = 17 + 2 * i + 1 by omega, byteAt_drop, hplace]
    rfl
  have hmem : s.keys.channels[i] ∈ s.keys.channels := List.getElem_mem hi
  simp only [loadedKeys, List.getElem_map, List.getElem_range, henable, hdown]
  exact loadedChannel_enable_downLevel (hlevels _ hmem) hup.1 (hhigh _ hmem)

/-- The profiles in range are read back (R116). -/
theorem loadedFeeds_profile {s : State} (hs : s.settingsInRange) (i : ProfileId) :
    (loadedFeeds (settingsParts s)).profile i = s.feeds.profile i := by
  obtain ⟨-, -, hchannels, -, hprofiles, -⟩ := hs
  obtain ⟨-, h63, h70, h77, -⟩ := settingsParts_places hchannels
  have hi : i ∈ [ProfileId.a, .b, .c] := by cases i <;> decide
  obtain ⟨hr, hr', hb, hb', hd⟩ := hprofiles i hi
  cases i with
  | a => exact (congrArg (loadedProfile .defaultA) h63).trans (loadedProfile_profilePart _ ⟨hr, hr'⟩ ⟨hb, hb'⟩ hd)
  | b => exact (congrArg (loadedProfile .defaultB) h70).trans (loadedProfile_profilePart _ ⟨hr, hr'⟩ ⟨hb, hb'⟩ hd)
  | c => exact (congrArg (loadedProfile .defaultC) h77).trans (loadedProfile_profilePart _ ⟨hr, hr'⟩ ⟨hb, hb'⟩ hd)

/-- A port's default profile (R115). -/
def defaultProfileOf (i : PortId) : ProfileId := if i = .p0 then .c else .a

/-- Each port is read from its own part. -/
theorem loadedFeeds_port {s : State} (hs : s.settingsInRange) (i : PortId) :
    ∃ more, (loadedFeeds (settingsParts s)).port i =
      loadedPort (defaultProfileOf i) (portPart i (s.feeds.port i) ++ more) := by
  obtain ⟨-, -, hchannels, -⟩ := hs
  obtain ⟨-, -, -, -, h84, -⟩ := settingsParts_places hchannels
  have hpart : ∀ k (hk : k < allPorts.length), ∃ more,
      (settingsParts s).drop (84 + 3 * k) = portPart allPorts[k] (s.feeds.port allPorts[k]) ++ more := fun k hk => by
    rw [← List.drop_drop, h84]
    exact drop_flatMap_append (f := fun i => portPart i (s.feeds.port i)) (w := 3) _ allPorts k hk fun _ _ => rfl
  cases i with
  | p0 => exact (hpart 0 (by decide)).imp fun _ h => congrArg (loadedPort .c) h
  | p1 => exact (hpart 1 (by decide)).imp fun _ h => congrArg (loadedPort .a) h
  | p2 => exact (hpart 2 (by decide)).imp fun _ h => congrArg (loadedPort .a) h
  | p3 => exact (hpart 3 (by decide)).imp fun _ h => congrArg (loadedPort .a) h
  | p4 => exact (hpart 4 (by decide)).imp fun _ h => congrArg (loadedPort .a) h

/-- The layers that a record gives, by its content. -/
theorem applySettings_layers (bytes : List Byte) (r : State) :
    let c := (bytes.drop 5).take settingsContent
    let d := (applySettings bytes r).dict
    d.layer .l1 = loadedLayer (loadedParams c) (c.drop 99) ∧ d.layer .l2 = loadedLayer (loadedParams c) (c.drop 104) ∧
      d.layer .l3 = loadedLayer (loadedParams c) (c.drop 109) :=
  ⟨rfl, rfl, rfl⟩

/-- Each layer is read from its own part. -/
theorem applySettings_layer {s r : State} (hs : s.settingsInRange) (i : LayerId) :
    ∃ more, ((applySettings (settingsRecord s) r).dict.layer i) =
      loadedLayer s.params (layerPart (s.dict.layer i) ++ more) := by
  have hcontent := settingsRecord_content hs
  have hparams := loadedParams_settingsParts hs
  obtain ⟨-, -, hchannels, -⟩ := hs
  obtain ⟨-, -, -, -, -, h99, -⟩ := settingsParts_places hchannels
  have hpart : ∀ k (hk : k < allLayers.length), ∃ more,
      (settingsParts s).drop (99 + 5 * k) = layerPart (s.dict.layer allLayers[k]) ++ more := fun k hk => by
    rw [← List.drop_drop, h99]
    exact drop_flatMap_append (f := fun i => layerPart (s.dict.layer i)) (w := 5) _ allLayers k hk fun _ _ => rfl
  obtain ⟨h1, h2, h3⟩ := applySettings_layers (settingsRecord s) r
  rw [hcontent, hparams] at h1 h2 h3
  cases i with
  | l1 => exact (hpart 0 (by decide)).imp fun _ h => h1.trans (congrArg (loadedLayer s.params) h)
  | l2 => exact (hpart 1 (by decide)).imp fun _ h => h2.trans (congrArg (loadedLayer s.params) h)
  | l3 => exact (hpart 2 (by decide)).imp fun _ h => h3.trans (congrArg (loadedLayer s.params) h)

/-! ## The record applied -/

/-- What the record of a part in range gives a part in any state. -/
theorem applySettings_settingsRecord {s : State} (r : State) (hs : s.settingsInRange) :
    let t := applySettings (settingsRecord s) r
    t.params = s.params ∧ t.keys = loadedKeys s.params.upLevel (settingsParts s) ∧
      t.feeds = loadedFeeds (settingsParts s) := by
  have hcontent := settingsRecord_content hs
  have hparams : loadedParams (((settingsRecord s).drop 5).take settingsContent) = s.params := by
    rw [hcontent]
    exact loadedParams_settingsParts hs
  refine ⟨hparams, ?_, congrArg loadedFeeds hcontent⟩
  change loadedKeys (loadedParams (((settingsRecord s).drop 5).take settingsContent)).upLevel
    (((settingsRecord s).drop 5).take settingsContent) = _
  rw [hparams, hcontent]

/-! ## The load's three READs (R168, R189) -/

/-- The settings load after the READs ended so far, with the port free. -/
def State.loading (u : State) (parts : List (Option (List Byte))) : Prop :=
  u.port.items = [.settingsLoad parts] ∧ u.port.headBegun = true ∧ u.blocksWait ∧ u.port.state = .idle ∧
    u.port.chosen = none

/-- The first and the second READ are followed by the next, whatever became of them. -/
theorem settingsLoad_goesOn {u : State} {parts : List (Option (List Byte))} (o : OpOutcome) (h : u.loading parts)
    (hlen : parts.length < 2) :
    runBlocks (itemOutcome (.settingsLoad parts) o u) = { u with
      port := { u.port.runs .link (if parts.length = 0 then .read 256 256 else .read 512 169) u.now with
        items := [.settingsLoad (parts ++ [o.bytes?])] } } := by
  obtain ⟨hi, hb, hw, hs, hc⟩ := h
  have hlength : (parts ++ [o.bytes?]).length = parts.length + 1 := List.length_append
  have hop : settingsReadOp (parts.length + 1) = if parts.length = 0 then .read 256 256 else .read 512 169 := by
    obtain h0 | h1 : parts.length = 0 ∨ parts.length = 1 := by omega
    · rw [h0]
      rfl
    · rw [h1]
      rfl
  have hnext : itemOutcome (.settingsLoad parts) o u =
      requestLink (if parts.length = 0 then .read 256 256 else .read 512 169)
        (setHead (.settingsLoad (parts ++ [o.bytes?])) u) := by
    rw [← hop, ← hlength]
    exact if_pos (by omega)
  exact runBlocks_itemGoesOn hnext hi hb hw hs hc

/-- The third READ ends the load with its parts joined. -/
theorem settingsLoad_ends {parts : List (Option (List Byte))} (o : OpOutcome) (hlen : parts.length = 2) (u : State) :
    itemOutcome (.settingsLoad parts) o u = settingsLoaded (joinParts (parts ++ [o.bytes?])) (popItem u) := by
  have hlength : (parts ++ [o.bytes?]).length = parts.length + 1 := List.length_append
  exact if_neg (by omega)

theorem eq_pair_of_length {α : Type} : ∀ {l : List α}, l.length = 2 → ∃ a b, l = [a, b]
  | [a, b], _ => ⟨a, b, rfl⟩

theorem joinParts_none {a b c : Option (List Byte)} (h : a = none ∨ b = none ∨ c = none) : joinParts [a, b, c] = none := by
  match a, b, c with
  | none, _, _ => rfl
  | some _, none, _ => rfl
  | some _, some _, none => rfl
  | some _, some _, some _ => simp at h

/-- What follows the settings load: the ports take their states, and the recovery scan begins (R189). -/
def State.loadOver (t : State) : State := startUpScan (portsTakeStates { t with boot := .recoveryScan })

theorem settingsLoaded_none (t : State) : settingsLoaded none t = t.loadOver := rfl

theorem testAttn_eq (t : State) : testAttn t = { t with link := { t.link with attn := attnWanted t } } := rfl

theorem settingsLoaded_some (record : List Byte) (t : State) :
    settingsLoaded (some record) t =
      (if settingsValid record then testAttn (applySettings record t) else t).loadOver := rfl

theorem settingsLoaded_valid {record : List Byte} (h : settingsValid record = true) (t : State) :
    settingsLoaded (some record) t = (testAttn (applySettings record t)).loadOver := by
  rw [settingsLoaded_some, h, if_pos rfl]

theorem settingsLoaded_invalid {record : List Byte} (h : settingsValid record = false) (t : State) :
    settingsLoaded (some record) t = t.loadOver := by
  rw [settingsLoaded_some, h, if_neg Bool.false_ne_true]

/-- The record of a part whose settings are in range, applied to a part in any state, gives the same settings. -/
theorem settingsRecord_loadsBack {s : State} (r : State) (hs : s.settingsInRange) :
    let t := applySettings (settingsRecord s) r
    t.keys.channels.map (fun c => (c.enable, c.downLevel)) =
      s.keys.channels.map (fun c => (c.enable, c.downLevel)) ∧
    (∀ i, t.feeds.profile i = s.feeds.profile i) ∧
    (∀ i, (t.feeds.port i).enable = (s.feeds.port i).enable ∧
      (t.feeds.port i).profile = (s.feeds.port i).profile) ∧
    (∀ i ∈ viewerPorts, (t.feeds.port i).speed = (s.feeds.port i).speed) ∧
    ∀ i, (t.dict.layer i).base = (s.dict.layer i).base ∧ (t.dict.layer i).count = (s.dict.layer i).count ∧
      (t.dict.layer i).enable = (s.dict.layer i).enable := by
  obtain ⟨-, hkeys, hfeeds⟩ := applySettings_settingsRecord r hs
  refine ⟨?_, fun i => ?_, fun i => ?_,
    fun i hi => ?_, fun i => ?_⟩
  · rw [hkeys]
    exact loadedKeys_settingsParts hs
  · rw [hfeeds]
    exact loadedFeeds_profile hs i
  · obtain ⟨more, hport⟩ := loadedFeeds_port hs i
    obtain ⟨henable, hprofile, -⟩ := loadedPort_portPart (default := defaultProfileOf i) (i := i) (p := s.feeds.port i) more
    rw [hfeeds, hport]
    exact ⟨henable, hprofile⟩
  · obtain ⟨more, hport⟩ := loadedFeeds_port hs i
    obtain ⟨-, -, hspeed⟩ := loadedPort_portPart (default := defaultProfileOf i) (i := i) (p := s.feeds.port i) more
    rw [hfeeds, hport]
    exact hspeed (by rintro rfl; exact absurd hi (by decide))
  · obtain ⟨more, hlayer⟩ := applySettings_layer (r := r) hs i
    obtain ⟨-, -, -, -, -, hlayers⟩ := hs
    obtain ⟨hbase, hok, hfree, hempty⟩ := hlayers i (by cases i <;> decide)
    rw [hlayer]
    exact loadedLayer_layerPart more hbase hok hfree hempty

/-- Settles O60: the record is read back part by part, and the load goes through its three READs. -/
theorem storedSettingsLoadBack : Obligations.StoredSettingsLoadBack := by
  refine ⟨fun s r hs => ?_, ?_⟩
  · obtain ⟨hparams, -, -⟩ := applySettings_settingsRecord r hs
    obtain ⟨hchannels, hprofiles, hports, hspeeds, hlayers⟩ := settingsRecord_loadsBack r hs
    exact ⟨settingsRecord_length hs, settingsValid_settingsRecord hs, hparams, rfl, hchannels, hprofiles, hports,
      hspeeds, hlayers⟩
  · intro s addr n deadline phase flips parts hf hq hb hc hi got next freed timedOut loaded
    have hread : phase = .transfer → exec (.readComplete flips) s =
        .next (runBlocks (itemOutcome (.settingsLoad parts) (.success got) (s.freed s.device))) := by
      rintro rfl
      exact exec_readComplete_link hf hi
    have hready : phase = .readyWait → deadline ≤ s.now → exec .readyTimeout s =
        .next (runBlocks (itemOutcome (.settingsLoad parts) .timeout s.timedOut)) := fun hp hd => by
      rw [exec_readyTimeout hf hp hd, operationTimesOut_link rfl rfl hi]
    have hfreed : (s.freed s.device).loading parts := ⟨hi, hb, freed_blocksWait hq _, rfl, hc⟩
    have htimed : s.timedOut.loading parts :=
      ⟨hi, hb, blocksWait_same (quiet_blocksWait hq) rfl rfl rfl rfl rfl rfl, rfl, hc⟩
    have hpop : popItem (s.freed s.device) = freed := by
      simp only [popItem, State.mapPort, State.freed, hi]
      rfl
    have hpopTimed : popItem s.timedOut = timedOut := by
      simp only [popItem, State.mapPort, State.timedOut, hi]
      rfl
    refine ⟨fun hlen => ⟨fun hp => ?_, fun hp hd => ?_⟩, fun a b hparts hp => ?_, fun a b hparts hnone hp => ?_,
      fun hlen hp hd => ?_⟩
    · exact (hread hp).trans (congrArg Host.Outcome.next (settingsLoad_goesOn (.success got) hfreed hlen))
    · exact (hready hp hd).trans (congrArg Host.Outcome.next (settingsLoad_goesOn .timeout htimed hlen))
    · intro record applied
      have hend : exec (.readComplete flips) s = .next (runBlocks (settingsLoaded (some record) freed)) := by
        have hjoin : joinParts (parts ++ [some got]) = some record := by
          rw [hparts]
          exact congrArg some (by simp [record])
        rw [hread hp, settingsLoad_ends _ (by rw [hparts]; rfl), hpop]
        rw [show parts ++ [(OpOutcome.success got).bytes?] = parts ++ [some got] from rfl, hjoin]
      refine ⟨fun hvalid => ?_, fun hinvalid => ?_⟩
      · rw [hend, settingsLoaded_valid hvalid, testAttn_eq]
        rfl
      · rw [hend, settingsLoaded_invalid hinvalid]
        rfl
    · have hjoin : joinParts (parts ++ [some got]) = none := by
        rw [hparts]
        exact joinParts_none (hnone.imp_right .inl)
      rw [hread hp, settingsLoad_ends _ (by rw [hparts]; rfl), hpop]
      rw [show parts ++ [(OpOutcome.success got).bytes?] = parts ++ [some got] from rfl, hjoin, settingsLoaded_none]
      rfl
    · obtain ⟨a, b, hparts⟩ := eq_pair_of_length hlen
      have hjoin : joinParts (parts ++ [none]) = none := by
        rw [hparts]
        exact joinParts_none (.inr (.inr rfl))
      rw [hready hp hd, settingsLoad_ends _ hlen, hpopTimed]
      rw [show parts ++ [OpOutcome.timeout.bytes?] = parts ++ [none] from rfl, hjoin, settingsLoaded_none]
      rfl

end Sys2Proof.Machine
end

section
/-! PROOFS. The MEMORY_FAULT condition stays pending through the blocks' work (R162, R184): none of it raises the
condition or clears it. One lemma per shared operation. -/

namespace Sys2Proof.Machine

/-- MEMORY_FAULT is pending. -/
def State.faultPending (s : State) : Bool := hasFlag s.link.conditionsPending Condition.memoryFault.bit

theorem ite_faultPending (c : Prop) {h : Decidable c} (a b : State) :
    (if c then a else b).faultPending = if c then a.faultPending else b.faultPending := by split <;> rfl

/-! ## Updates -/

@[simp] theorem mapLink_faultPending (s : State) (f : Link → Link)
    (h : (f s.link).conditionsPending = s.link.conditionsPending) : (s.mapLink f).faultPending = s.faultPending :=
  congrArg (fun b => hasFlag b Condition.memoryFault.bit) h

@[simp] theorem mapPort_faultPending (s : State) (f) : (s.mapPort f).faultPending = s.faultPending := rfl
@[simp] theorem mapDict_faultPending (s : State) (f) : (s.mapDict f).faultPending = s.faultPending := rfl
@[simp] theorem mapFormer_faultPending (s : State) (f) : (s.mapFormer f).faultPending = s.faultPending := rfl
@[simp] theorem mapRing_faultPending (s : State) (f) : (s.mapRing f).faultPending = s.faultPending := rfl
@[simp] theorem mapEngine_faultPending (s : State) (f) : (s.mapEngine f).faultPending = s.faultPending := rfl
@[simp] theorem mapStream_faultPending (s : State) (f) : (s.mapStream f).faultPending = s.faultPending := rfl
@[simp] theorem mapFeeds_faultPending (s : State) (f) : (s.mapFeeds f).faultPending = s.faultPending := rfl
@[simp] theorem mapJournal_faultPending (s : State) (f) : (s.mapJournal f).faultPending = s.faultPending := rfl
@[simp] theorem mapJob_faultPending (s : State) (f) : (s.mapJob f).faultPending = s.faultPending := rfl
@[simp] theorem setBoot_faultPending (s : State) (b) : (s.setBoot b).faultPending = s.faultPending := rfl

/-! ## Link controller -/

@[simp] theorem testAttn_faultPending (s : State) : (testAttn s).faultPending = s.faultPending := by simp [testAttn]

@[simp] theorem enqueue_faultPending (r : Bool) (k t : Byte) (p : List Byte) (s : State) :
    (enqueue r k t p s).faultPending = s.faultPending := by simp [enqueue]

@[simp] theorem reply_faultPending (k t : Byte) (c : ReplyCode) (p : List Byte) (s : State) :
    (reply k t c p s).faultPending = s.faultPending := by simp [reply]

@[simp] theorem offerNotice_faultPending (k : Byte) (p : List Byte) (s : State) :
    (offerNotice k p s).faultPending = s.faultPending := by simp only [offerNotice, ite_faultPending]; simp

@[simp] theorem notifyCondition_faultPending (c : Condition) (s : State) :
    (notifyCondition c s).faultPending = s.faultPending :=
  congrArg (fun b => hasFlag b Condition.memoryFault.bit) (notifyCondition_kept c s).1

@[simp] theorem raise_faultPending {c : Condition} (h : c ≠ .memoryFault) (s : State) :
    (raise c s).faultPending = s.faultPending := by
  rw [raise, notifyCondition_faultPending]
  refine (hasFlag_or_bit s.link.conditionsPending .memoryFault c).trans ?_
  rw [decide_eq_false (Ne.symm h), Bool.or_false]
  rfl

@[simp] theorem testJournalLow_faultPending (s : State) : (testJournalLow s).faultPending = s.faultPending := by
  simp only [testJournalLow, ite_faultPending]; simp

/-! ## Memory port requests -/

@[simp] theorem requestJournal_faultPending (op : MemOp) (s : State) :
    (requestJournal op s).faultPending = s.faultPending := by simp [requestJournal]

@[simp] theorem requestTranslation_faultPending (op : MemOp) (s : State) :
    (requestTranslation op s).faultPending = s.faultPending := by simp [requestTranslation]

@[simp] theorem requestLink_faultPending (op : MemOp) (s : State) : (requestLink op s).faultPending = s.faultPending := by
  simp [requestLink]

@[simp] theorem pushItem_faultPending (i : LinkItem) (s : State) : (pushItem i s).faultPending = s.faultPending := by
  simp [pushItem]

@[simp] theorem setHead_faultPending (i : LinkItem) (s : State) : (setHead i s).faultPending = s.faultPending := by
  simp [setHead]

@[simp] theorem popItem_faultPending (s : State) : (popItem s).faultPending = s.faultPending := by simp [popItem]

@[simp] theorem dropInFlight_faultPending (r : Requester) (s : State) :
    (dropInFlight r s).faultPending = s.faultPending := by simp [dropInFlight]

@[simp] theorem freeSlot_faultPending (s : State) : (freeSlot s).faultPending = s.faultPending := by simp [freeSlot]

/-! ## Feeds and stream -/

@[simp] theorem takeFrame_faultPending (i : PortId) (f : FeedFrame) (s : State) :
    (takeFrame i f s).faultPending = s.faultPending := by cases i <;> simp [takeFrame]

@[simp] theorem choose_faultPending (i : PortId) (s : State) : (choose i s).faultPending = s.faultPending := by
  simp only [choose]; (repeat' split) <;> simp

@[simp] theorem chooseRun_faultPending (n : Nat) (s : State) : (chooseRun n s).faultPending = s.faultPending := by
  induction n generalizing s with
  | zero => rfl
  | succ n ih => simp only [chooseRun, ite_faultPending, ih]; simp

@[simp] theorem choosePortZero_faultPending (s : State) : (choosePortZero s).faultPending = s.faultPending := by
  simp [choosePortZero]

@[simp] theorem chooseAll_faultPending (s : State) : (chooseAll s).faultPending = s.faultPending := by simp [chooseAll]

@[simp] theorem feedRetract_faultPending (p : Nat) (s : State) : (feedRetract p s).faultPending = s.faultPending := by
  simp [feedRetract]

@[simp] theorem feedSettled_faultPending (s : State) : (feedSettled s).faultPending = s.faultPending := by
  simp [feedSettled]

@[simp] theorem feedLength_faultPending (s : State) : (feedLength s).faultPending = s.faultPending := by simp [feedLength]

@[simp] theorem feedJobOpen_faultPending (s : State) : (feedJobOpen s).faultPending = s.faultPending := by
  simp [feedJobOpen]

@[simp] theorem portsTakeStates_faultPending (s : State) : (portsTakeStates s).faultPending = s.faultPending := by
  simp [portsTakeStates]

@[simp] theorem applyAppend_faultPending (n : Nat) (s : State) : (applyAppend n s).faultPending = s.faultPending := by
  simp [applyAppend]

@[simp] theorem applyRetract_faultPending (n : Nat) (s : State) : (applyRetract n s).faultPending = s.faultPending := by
  simp [applyRetract]

@[simp] theorem settleOldest_faultPending (c : Chunk) (s : State) :
    (settleOldest c s).faultPending = s.faultPending := by simp [settleOldest]

@[simp] theorem settleFrom_faultPending (cs : List Chunk) (s : State) :
    (settleFrom cs s).faultPending = s.faultPending := by
  induction cs generalizing s with
  | nil => rfl
  | cons c cs ih => simp only [settleFrom, ite_faultPending, ih]; simp

@[simp] theorem settleTest_faultPending (s : State) : (settleTest s).faultPending = s.faultPending := by simp [settleTest]

@[simp] theorem durableAdvanced_faultPending (n : Nat) (s : State) :
    (durableAdvanced n s).faultPending = s.faultPending := by simp [durableAdvanced]

@[simp] theorem modeChanged_faultPending (m : JournalMode) (s : State) :
    (modeChanged m s).faultPending = s.faultPending := by simp [modeChanged]

@[simp] theorem streamJobOpen_faultPending (m : JournalMode) (s : State) :
    (streamJobOpen m s).faultPending = s.faultPending := by simp [streamJobOpen]

/-! ## Journal -/

@[simp] theorem closeCompletes_faultPending (b : List Byte) (s : State) :
    (closeCompletes b s).faultPending = s.faultPending := by simp only [closeCompletes]; split <;> simp

@[simp] theorem journalClosed_faultPending (s : State) : (journalClosed s).faultPending = s.faultPending := by
  simp [journalClosed]

@[simp] theorem enterPassing_faultPending (c : JournalCause) (s : State) :
    (enterPassing c s).faultPending = s.faultPending := by simp [enterPassing]

@[simp] theorem startSeek_faultPending (n : Option Nat) (f : Bool) (s : State) :
    (startSeek n f s).faultPending = s.faultPending := by simp [startSeek]

@[simp] theorem seekEnded_faultPending (n : Option Nat) (f : Bool) (s : State) :
    (seekEnded n f s).faultPending = s.faultPending := by simp only [seekEnded, ite_faultPending]; simp

@[simp] theorem endSeekEarly_faultPending (s : State) : (endSeekEarly s).faultPending = s.faultPending := by
  unfold endSeekEarly
  rw [mapPort_faultPending, ite_faultPending]
  simp

@[simp] theorem restartExport_faultPending (s : State) : (restartExport s).faultPending = s.faultPending := by
  unfold restartExport
  split
  · rw [mapPort_faultPending, dropInFlight_faultPending]
  · rfl

@[simp] theorem startWrite_faultPending (n : Nat) (r : JournalRecord) (w : Bool) (s : State) :
    (startWrite n r w s).faultPending = s.faultPending := by simp [startWrite]

@[simp] theorem openSector_faultPending (n k : Nat) (s : State) : (openSector n k s).faultPending = s.faultPending := by
  simp [openSector]

@[simp] theorem startCloseWrite_faultPending (n : Nat) (s : State) :
    (startCloseWrite n s).faultPending = s.faultPending := by simp [startCloseWrite]

@[simp] theorem queueAmendment_faultPending (n : Nat) (s : State) :
    (queueAmendment n s).faultPending = s.faultPending := by simp [queueAmendment]

@[simp] theorem endAmendment_faultPending (d : Bool) (s : State) : (endAmendment d s).faultPending = s.faultPending := by
  simp [endAmendment]

@[simp] theorem locateAt_faultPending (q c k : Nat) (l : List Nat) (s : State) :
    (locateAt q c k l s).faultPending = s.faultPending := by simp only [locateAt]; (repeat' split) <;> simp

@[simp] theorem startLocate_faultPending (q : Nat) (s : State) : (startLocate q s).faultPending = s.faultPending := by
  simp only [startLocate]; split <;> simp

@[simp] theorem startCorrect_faultPending (c k : Nat) (s : State) :
    (startCorrect c k s).faultPending = s.faultPending := by simp [startCorrect]

@[simp] theorem locateStep_faultPending (q c k : Nat) (l : List Nat) (b : List Byte) (s : State) :
    (locateStep q c k l b s).faultPending = s.faultPending := by simp only [locateStep, ite_faultPending]; simp

@[simp] theorem commitRecord_faultPending (w : RecordWrite) (s : State) :
    (commitRecord w s).faultPending = s.faultPending := by simp only [commitRecord]; (repeat' split) <;> simp

@[simp] theorem recordFailed_faultPending (w : RecordWrite) (s : State) :
    (recordFailed w s).faultPending = s.faultPending := by simp [recordFailed]

@[simp] theorem voidFailed_faultPending (s : State) : (voidFailed s).faultPending = s.faultPending := by simp [voidFailed]

@[simp] theorem retireCurrent_faultPending (n : Nat) (s : State) : (retireCurrent n s).faultPending = s.faultPending := by
  simp [retireCurrent]

@[simp] theorem recordVoided_faultPending (w : RecordWrite) (s : State) :
    (recordVoided w s).faultPending = s.faultPending := by simp only [recordVoided, ite_faultPending]; simp

@[simp] theorem retireFailed_faultPending (s : State) : (retireFailed s).faultPending = s.faultPending := by
  simp only [retireFailed, ite_faultPending]; simp

@[simp] theorem headerCommitted_faultPending (n : Nat) (s : State) :
    (headerCommitted n s).faultPending = s.faultPending := by simp [headerCommitted]

@[simp] theorem openingPasses_faultPending (s : State) : (openingPasses s).faultPending = s.faultPending := by
  simp [openingPasses]

@[simp] theorem headerFailed_faultPending (n : Nat) (s : State) : (headerFailed n s).faultPending = s.faultPending := by
  simp only [headerFailed, ite_faultPending]; simp

@[simp] theorem headerVoided_faultPending (n : Nat) (s : State) : (headerVoided n s).faultPending = s.faultPending := by
  simp [headerVoided]

@[simp] theorem headerVoidFailed_faultPending (s : State) : (headerVoidFailed s).faultPending = s.faultPending := by
  simp [headerVoidFailed]

@[simp] theorem sectorExhausted_faultPending (s : State) : (sectorExhausted s).faultPending = s.faultPending := by
  simp only [sectorExhausted, ite_faultPending]; simp

/-! ## Scan -/

@[simp] theorem scanReply_faultPending (f : Bool) (r : ScanReply) (s : State) :
    (scanReply f r s).faultPending = s.faultPending := by simp only [scanReply]; (repeat' split) <;> simp

theorem foldl_faultPending {α : Type} (g : State → α → State) (hg : ∀ s a, (g s a).faultPending = s.faultPending)
    (l : List α) (s : State) : (l.foldl g s).faultPending = s.faultPending := by
  induction l generalizing s with
  | nil => rfl
  | cons a l ih => rw [List.foldl_cons, ih, hg]

@[simp] theorem endBoot_faultPending (s : State) : (endBoot s).faultPending = s.faultPending := by
  simp only [endBoot, ite_faultPending]; simp

@[simp] theorem scanOver_faultPending (f : Bool) (s : State) : (scanOver f s).faultPending = s.faultPending := by
  simp [scanOver, foldl_faultPending]

@[simp] theorem scanFailed_faultPending (s : State) : (scanFailed s).faultPending = s.faultPending := by simp [scanFailed]

@[simp] theorem scanCounts_faultPending (s : State) : (scanCounts s).faultPending = s.faultPending := by simp [scanCounts]

@[simp] theorem scanRequest_faultPending (g : ScanStage) (op : MemOp) (s : State) :
    (scanRequest g op s).faultPending = s.faultPending := by simp [scanRequest]

@[simp] theorem scanLatest_faultPending (c k : Nat) (l : List Nat) (s : State) :
    (scanLatest c k l s).faultPending = s.faultPending := by simp only [scanLatest]; (repeat' split) <;> simp

@[simp] theorem startLatest_faultPending (s : State) : (startLatest s).faultPending = s.faultPending := by
  simp [startLatest]

@[simp] theorem scanVoids_faultPending (l : List Nat) (s : State) : (scanVoids l s).faultPending = s.faultPending := by
  simp only [scanVoids]; split <;> simp

@[simp] theorem slotsRead_faultPending (b : List (Byte × Bool)) (s : State) :
    (slotsRead b s).faultPending = s.faultPending := by simp [slotsRead]

@[simp] theorem startSlots_faultPending (s : State) : (startSlots s).faultPending = s.faultPending := by
  simp only [startSlots]; split <;> simp

@[simp] theorem scanClassify_faultPending (n : Nat) (s : State) : (scanClassify n s).faultPending = s.faultPending := by
  simp only [scanClassify, ite_faultPending]; simp

@[simp] theorem classed_faultPending (n : Nat) (r : SectorRow) (s : State) :
    (classed n r s).faultPending = s.faultPending := by simp [classed]

@[simp] theorem beginScan_faultPending (l : List ScanReply) (s : State) :
    (beginScan l s).faultPending = s.faultPending := by simp [beginScan]

@[simp] theorem startUpScan_faultPending (s : State) : (startUpScan s).faultPending = s.faultPending := by
  simp only [startUpScan, ite_faultPending]; simp

@[simp] theorem scanTimeout_faultPending (g : ScanStage) (s : State) :
    (scanTimeout g s).faultPending = s.faultPending := by cases g <;> simp [scanTimeout]

@[simp] theorem scanStep_faultPending (g : ScanStage) (b : List Byte) (s : State) :
    (scanStep g b s).faultPending = s.faultPending := by simp only [scanStep]; (repeat' split) <;> simp

/-! ## Journal outcomes and abort -/

@[simp] theorem recordOutcome_faultPending (w : RecordWrite) (g : WriteStep) (o : OpOutcome) (s : State) :
    (recordOutcome w g o s).faultPending = s.faultPending := by cases g <;> cases o <;> simp only [recordOutcome, ite_faultPending] <;> simp

@[simp] theorem headerOutcome_faultPending (n : Nat) (b : List Byte) (g : WriteStep) (o : OpOutcome) (s : State) :
    (headerOutcome n b g o s).faultPending = s.faultPending := by
  cases g <;> cases o <;> simp only [headerOutcome, ite_faultPending] <;> simp

@[simp] theorem workOutcome_faultPending (o : OpOutcome) (s : State) : (workOutcome o s).faultPending = s.faultPending := by
  simp only [workOutcome]; (repeat' split) <;> simp

@[simp] theorem abortWorkDone_faultPending (s : State) : (abortWorkDone s).faultPending = s.faultPending := by
  simp [abortWorkDone]

@[simp] theorem useSlot_faultPending (n : Nat) (s : State) : (useSlot n s).faultPending = s.faultPending := by
  simp [useSlot]

@[simp] theorem requestAbortVoid_faultPending (c k : Nat) (s : State) :
    (requestAbortVoid c k s).faultPending = s.faultPending := by simp [requestAbortVoid]

@[simp] theorem abortVoidRecord_faultPending (w : RecordWrite) (s : State) :
    (abortVoidRecord w s).faultPending = s.faultPending := by simp [abortVoidRecord]

@[simp] theorem abortVoidHeader_faultPending (n : Nat) (s : State) :
    (abortVoidHeader n s).faultPending = s.faultPending := by simp [abortVoidHeader]

@[simp] theorem abortCommitRecord_faultPending (w : RecordWrite) (s : State) :
    (abortCommitRecord w s).faultPending = s.faultPending := by simp [abortCommitRecord]

@[simp] theorem abortCommitHeader_faultPending (s : State) : (abortCommitHeader s).faultPending = s.faultPending := by
  simp [abortCommitHeader]

@[simp] theorem abortOutcome_faultPending (o : OpOutcome) (s : State) :
    (abortOutcome o s).faultPending = s.faultPending := by simp only [abortOutcome]; (repeat' split) <;> simp

@[simp] theorem journalOutcome_faultPending (o : OpOutcome) (s : State) :
    (journalOutcome o s).faultPending = s.faultPending := by
  simp only [journalOutcome]; (repeat' split) <;> simp

/-! ## Translation engine -/

@[simp] theorem beginEvaluation_faultPending (f : Bool) (s : State) :
    (beginEvaluation f s).faultPending = s.faultPending := by simp [beginEvaluation]

@[simp] theorem reachBack_faultPending (s : State) : (reachBack s).faultPending = s.faultPending := by
  simp only [reachBack]; (repeat' split) <;> simp

@[simp] theorem handEdits_faultPending (n : Nat) (a b : List Byte) (s : State) :
    (handEdits n a b s).faultPending = s.faultPending := by simp only [handEdits]; (repeat' split) <;> simp

@[simp] theorem nextAfter_faultPending (f : Finish) (c : Bool) (s : State) :
    (nextAfter f c s).faultPending = s.faultPending := by simp only [nextAfter]; (repeat' split) <;> simp

@[simp] theorem endEvaluation_faultPending (r : EvalRun) (p : List Resolved) (s : State) :
    (endEvaluation r p s).faultPending = s.faultPending := by simp [endEvaluation]

@[simp] theorem advanceEvaluation_faultPending (r : EvalRun) (s : State) :
    (advanceEvaluation r s).faultPending = s.faultPending := by
  unfold advanceEvaluation
  split
  · rw [requestTranslation_faultPending, mapDict_faultPending, mapEngine_faultPending]
  · simp

@[simp] theorem lookupArrived_faultPending (l : List Code) (r : LookupResult) (s : State) :
    (lookupArrived l r s).faultPending = s.faultPending := by simp [lookupArrived]

@[simp] theorem lookupNext_faultPending (l : List Code) (n : LookupNext) (s : State) :
    (lookupNext l n s).faultPending = s.faultPending := by cases n <;> simp [lookupNext]

@[simp] theorem layerDone_faultPending (k : Lookup) (r : LookupResult) (s : State) :
    (layerDone k r s).faultPending = s.faultPending := by simp [layerDone]

@[simp] theorem walkTimeout_faultPending (k : Lookup) (s : State) : (walkTimeout k s).faultPending = s.faultPending := by
  simp [walkTimeout]

@[simp] theorem correctWindow_faultPending (e : StrokeEntry) (s : State) :
    (correctWindow e s).faultPending = s.faultPending := by simp [correctWindow]

@[simp] theorem reopenChunk_faultPending (c : Chunk) (s : State) : (reopenChunk c s).faultPending = s.faultPending := by
  simp only [reopenChunk]; (repeat' split) <;> simp

@[simp] theorem takeCorrection_faultPending (r : RingRecord) (s : State) :
    (takeCorrection r s).faultPending = s.faultPending := by simp only [takeCorrection]; (repeat' split) <;> simp

@[simp] theorem takeStroke_faultPending (r : RingRecord) (s : State) : (takeStroke r s).faultPending = s.faultPending := by
  simp [takeStroke]

@[simp] theorem takeMark_faultPending (r : RingRecord) (s : State) : (takeMark r s).faultPending = s.faultPending := by
  simp [takeMark]

@[simp] theorem takeRecord_faultPending (r : RingRecord) (s : State) : (takeRecord r s).faultPending = s.faultPending := by
  simp only [takeRecord]; (repeat' split) <;> simp

@[simp] theorem engineJobOpen_faultPending (s : State) : (engineJobOpen s).faultPending = s.faultPending := by
  simp [engineJobOpen]

/-! ## Jobs -/

@[simp] theorem journalJobOpen_faultPending (n : Nat) (c : JournalCause) (s : State) :
    (journalJobOpen n c s).faultPending = s.faultPending := by simp only [journalJobOpen, ite_faultPending]; simp

@[simp] theorem openAllBlocks_faultPending (o : OpenPending) (s : State) :
    (openAllBlocks o s).faultPending = s.faultPending := by simp [openAllBlocks]

@[simp] theorem openTakesEffect_faultPending (s : State) : (openTakesEffect s).faultPending = s.faultPending := by
  simp only [openTakesEffect]; split <;> simp

/-! ## Link-side items -/

@[simp] theorem layerDisable_faultPending (t : Byte) (i : LayerId) (b c : Nat) (s : State) :
    (layerDisable t i b c s).faultPending = s.faultPending := by simp [layerDisable]

@[simp] theorem layerSetOutcome_faultPending (t : Byte) (i : LayerId) (b c : Nat) (o : OpOutcome) (s : State) :
    (layerSetOutcome t i b c o s).faultPending = s.faultPending := by
  cases o <;> simp only [layerSetOutcome, ite_faultPending] <;> simp

@[simp] theorem validateNext_faultPending (l : List LayerId) (s : State) :
    (validateNext l s).faultPending = s.faultPending := by simp only [validateNext]; split <;> simp

@[simp] theorem validationOutcome_faultPending (l : List LayerId) (o : OpOutcome) (s : State) :
    (validationOutcome l o s).faultPending = s.faultPending := by simp only [validationOutcome]; split <;> simp

@[simp] theorem imageReadOutcome_faultPending (t : Byte) (o : OpOutcome) (s : State) :
    (imageReadOutcome t o s).faultPending = s.faultPending := by cases o <;> simp [imageReadOutcome]

@[simp] theorem beginImageWrite_faultPending (a : Nat) (b : List Byte) (s : State) :
    (beginImageWrite a b s).faultPending = s.faultPending := by
  rw [beginImageWrite, requestLink_faultPending, mapDict_faultPending]

@[simp] theorem imageWriteOutcome_faultPending (t : Byte) (a : Nat) (b : List Byte) (r : Bool) (o : OpOutcome)
    (s : State) : (imageWriteOutcome t a b r o s).faultPending = s.faultPending := by
  simp only [imageWriteOutcome]; (repeat' split) <;> simp

@[simp] theorem beginImageErase_faultPending (n : Nat) (s : State) :
    (beginImageErase n s).faultPending = s.faultPending := by
  rw [beginImageErase, requestLink_faultPending, mapDict_faultPending]

@[simp] theorem imageEraseOutcome_faultPending (t : Byte) (o : OpOutcome) (s : State) :
    (imageEraseOutcome t o s).faultPending = s.faultPending := by cases o <;> simp [imageEraseOutcome]

@[simp] theorem seekMissed_faultPending (t : Byte) (c : ReplyCode) (s : State) :
    (seekMissed t c s).faultPending = s.faultPending := by simp [seekMissed]

@[simp] theorem seekFound_faultPending (t : Byte) (c k : Nat) (s : State) :
    (seekFound t c k s).faultPending = s.faultPending := by simp [seekFound]

@[simp] theorem seekSector_faultPending (t : Byte) (j q : Nat) (l : List Nat) (s : State) :
    (seekSector t j q l s).faultPending = s.faultPending := by simp only [seekSector]; split <;> simp

@[simp] theorem seekSlot_faultPending (t : Byte) (j q c k : Nat) (n : Bool) (l : List Nat) (s : State) :
    (seekSlot t j q c k n l s).faultPending = s.faultPending := by simp only [seekSlot, ite_faultPending]; simp

@[simp] theorem seekHeader_faultPending (t : Byte) (j q c : Nat) (l : List Nat) (b : List Byte) (s : State) :
    (seekHeader t j q c l b s).faultPending = s.faultPending := by simp only [seekHeader, ite_faultPending]; simp

@[simp] theorem seekRecord_faultPending (t : Byte) (j q c k : Nat) (n : Bool) (l : List Nat) (b : List Byte)
    (s : State) : (seekRecord t j q c k n l b s).faultPending = s.faultPending := by simp only [seekRecord, ite_faultPending]; simp

@[simp] theorem journalSeekOutcome_faultPending (t : Byte) (j q c k : Nat) (n : Bool) (l : List Nat)
    (o : OpOutcome) (s : State) : (journalSeekOutcome t j q c k n l o s).faultPending = s.faultPending := by
  cases o <;> simp only [journalSeekOutcome, ite_faultPending] <;> simp

@[simp] theorem exportReply_faultPending (t : Byte) (c : ReplyCode) (g : List (List Byte)) (s : State) :
    (exportReply t c g s).faultPending = s.faultPending := by simp [exportReply]

@[simp] theorem exportNext_faultPending (t : Byte) (w : Nat) (g : List (List Byte)) (s : State) :
    (exportNext t w g s).faultPending = s.faultPending := by simp only [exportNext, ite_faultPending]; simp

@[simp] theorem journalReadOutcome_faultPending (t : Byte) (w : Nat) (g : List (List Byte)) (o : OpOutcome)
    (s : State) : (journalReadOutcome t w g o s).faultPending = s.faultPending := by
  cases o <;> simp [journalReadOutcome]

@[simp] theorem eraseNext_faultPending (t : Byte) (l : List Nat) (n : Nat) (s : State) :
    (eraseNext t l n s).faultPending = s.faultPending := by simp only [eraseNext]; split <;> simp

@[simp] theorem journalEraseOutcome_faultPending (t : Byte) (l : List Nat) (n : Nat) (o : OpOutcome) (s : State) :
    (journalEraseOutcome t l n o s).faultPending = s.faultPending := by cases o <;> simp [journalEraseOutcome]

@[simp] theorem seekCandidate_faultPending (l : List Nat) (f : Bool) (s : State) :
    (seekCandidate l f s).faultPending = s.faultPending := by simp only [seekCandidate]; split <;> simp

@[simp] theorem retireCandidate_faultPending (c : Nat) (s : State) :
    (retireCandidate c s).faultPending = s.faultPending := by simp [retireCandidate]

@[simp] theorem nextSeekOutcome_faultPending (l : List Nat) (b : Option Bool) (f : Bool) (o : OpOutcome)
    (s : State) : (nextSeekOutcome l b f o s).faultPending = s.faultPending := by
  simp only [nextSeekOutcome]; (repeat' split) <;> simp

@[simp] theorem storeOutcome_faultPending (t : Byte) (r : List Byte) (d : Nat) (e : Bool) (o : OpOutcome)
    (s : State) : (storeOutcome t r d e o s).faultPending = s.faultPending := by
  cases o <;> simp only [storeOutcome, ite_faultPending] <;> simp

@[simp] theorem beginItem_faultPending (i : LinkItem) (s : State) : (beginItem i s).faultPending = s.faultPending := by
  cases i <;> simp only [beginItem, ite_faultPending] <;> simp

/-! ## The work of the blocks -/

theorem place_faultPending (n : Nat) (w : Nat → State → State) (hw : ∀ c s, (w c s).faultPending = s.faultPending)
    {s t : State} (h : place n w s = some t) : t.faultPending = s.faultPending := by
  unfold place at h
  split at h <;> simp only [Option.map_eq_some_iff] at h <;> obtain ⟨_, _, rfl⟩ := h <;> simp [hw]

theorem runningWork_faultPending {s t : State} (h : runningWork s = some t) : t.faultPending = s.faultPending := by
  unfold runningWork at h
  split at h
  · cases h; simp
  · split at h
    · cases h; simp
    · split at h
      · exact place_faultPending _ _ (by simp) h
      · split at h
        · exact place_faultPending _ _ (by simp) h
        · split at h
          · exact place_faultPending _ _ (by simp) h
          · split at h
            · exact place_faultPending _ _ (by simp) h
            · cases h

theorem journalStep_faultPending {s t : State} (h : journalStep s = some t) : t.faultPending = s.faultPending := by
  unfold journalStep at h
  split at h
  · cases h
  · split at h
    · cases h
    · exact runningWork_faultPending h
    · split at h
      · cases h; simp
      · split at h
        · cases h; simp
        · cases h

theorem internalStep_faultPending {s t : State} (h : internalStep s = some t) : t.faultPending = s.faultPending := by
  simp only [internalStep, Option.or_eq_some_iff] at h
  rcases h with h | ⟨-, h | ⟨-, h | ⟨-, h | ⟨-, h | ⟨-, h | ⟨-, h⟩⟩⟩⟩⟩⟩
  · unfold evaluationStep at h; split at h <;> cases h; simp
  · unfold takeStep at h
    split at h
    · simp only [Option.map_eq_some_iff] at h; obtain ⟨_, _, rfl⟩ := h; simp
    · cases h
  · unfold drainStep at h; split at h <;> cases h; simp
  · exact journalStep_faultPending h
  · unfold abortStep at h
    split at h
    · cases h
    · split at h <;> cases h; simp
  · unfold headStep at h
    split at h
    · cases h
    · split at h
      · cases h
      · split at h <;> cases h; simp
  · unfold grantStep at h
    split at h
    · split at h <;> cases h; simp
    · cases h

/-- The blocks' work within a step neither raises MEMORY_FAULT nor clears it. -/
@[simp] theorem cascade_faultPending (n : Nat) (s : State) : (cascade n s).faultPending = s.faultPending := by
  induction n generalizing s with
  | zero => rfl
  | succ n ih =>
    unfold cascade
    split
    · rfl
    · rename_i h; rw [ih, internalStep_faultPending h]

@[simp] theorem runBlocks_faultPending (s : State) : (runBlocks s).faultPending = s.faultPending := by simp [runBlocks]

/-! ## The end of an operation -/

@[simp] theorem settingsLoaded_faultPending (r : Option (List Byte)) (s : State) :
    (settingsLoaded r s).faultPending = s.faultPending := by
  simp only [settingsLoaded, startUpScan_faultPending, portsTakeStates_faultPending, setBoot_faultPending]
  cases r with
  | none => rfl
  | some bytes =>
    dsimp only
    split <;> rfl

@[simp] theorem settingsLoadOutcome_faultPending (g : List (Option (List Byte))) (o : OpOutcome) (s : State) :
    (settingsLoadOutcome g o s).faultPending = s.faultPending := by
  simp [settingsLoadOutcome, ite_faultPending]

@[simp] theorem itemOutcome_faultPending (i : LinkItem) (o : OpOutcome) (s : State) :
    (itemOutcome i o s).faultPending = s.faultPending := by
  cases i <;> simp [itemOutcome]

@[simp] theorem linkOutcome_faultPending (o : OpOutcome) (s : State) :
    (linkOutcome o s).faultPending = s.faultPending := by
  unfold linkOutcome
  split <;> simp

@[simp] theorem translationOutcome_timeout_faultPending (s : State) :
    (translationOutcome .timeout s).faultPending = s.faultPending := by
  cases h : s.dict.lookup <;> simp [translationOutcome, h]

/-- A timeout handed to its requester raises MEMORY_FAULT no second time, and does not clear it. -/
theorem operationEnds_timeout_faultPending (f : InFlight) (s : State) :
    (operationEnds f .timeout s).faultPending = s.faultPending := by
  unfold operationEnds
  dsimp only
  split
  · simp
  · cases f.requester <;> simp

end Sys2Proof.Machine
end

section
/-! PROOFS. The timeouts of the memory port: what is counted, and what the requesters do (R162, R158, R165). -/

namespace Sys2Proof.Machine

/-! ## READY_TIMEOUT and COMPLETION_TIMEOUT -/

theorem exec_readyTimeout_not {s : State} {f : InFlight} (h : s.port.inFlight = some f)
    (hnot : ¬ (f.phase = .readyWait ∧ f.deadline ≤ s.now)) : exec .readyTimeout s = .next s := by
  have hexec : exec .readyTimeout s = execReadyTimeout s := rfl
  rw [hexec]
  simp only [execReadyTimeout, h]
  exact if_neg hnot

/-- The part with the operation in flight cut off at the device (R162). -/
def State.cutOff (s : State) (f : InFlight) : State := { s with device := s.device.cutOff f.op }

theorem exec_completionTimeout {s : State} {f : InFlight} (h : s.port.inFlight = some f) :
    exec .completionTimeout s =
      if f.phase = .busyWait ∧ f.deadline ≤ s.now then .next (runBlocks (operationTimesOut f (s.cutOff f))) else .next s := by
  have hexec : exec .completionTimeout s = execCompletionTimeout s := rfl
  rw [hexec]
  simp only [execCompletionTimeout, h]
  rfl

/-! ## What a timeout counts -/

/-- Of what lies outside the blocks, a timeout handed to its requester changes at most the channel table and the
parameter store, as the settings load ends. -/
theorem operationEnds_timeout_outside (f : InFlight) (s : State) :
    ∃ p k, (operationEnds f .timeout s).outside = ((s.mapParams fun _ => p).mapKeys fun _ => k).outside := by
  have hfree : (freeSlot s).outside = s.outside := freeSlot_outside s
  by_cases hd : f.dropped = true
  · exact ⟨s.params, s.keys, by rw [operationEnds_dropped hd]; exact hfree⟩
  · have hends : operationEnds f .timeout s = match f.requester with
        | .journal => journalOutcome .timeout (freeSlot s)
        | .translation => translationOutcome .timeout (freeSlot s)
        | .link => linkOutcome .timeout (freeSlot s) := if_neg hd
    rw [hends]
    cases f.requester with
    | journal => exact ⟨s.params, s.keys, (journalOutcome_outside _ _).trans hfree⟩
    | translation =>
      refine ⟨s.params, s.keys, ?_⟩
      cases hl : (freeSlot s).dict.lookup with
      | none =>
        simp only [translationOutcome, hl]
        exact hfree
      | some k =>
        simp only [translationOutcome, hl]
        exact (walkTimeout_outside k (freeSlot s)).trans hfree
    | link =>
      obtain ⟨p, k, hlink⟩ := linkOutcome_outside .timeout (freeSlot s)
      exact ⟨p, k, hlink⟩

/-- The fault raised is pending. -/
theorem raise_memoryFault_pending (s : State) : (raise .memoryFault s).faultPending = true := by
  have hkept := (notifyCondition_kept .memoryFault
    (s.mapLink fun l => { l with conditionsPending := l.conditionsPending ||| Condition.memoryFault.bit })).1
  refine (congrArg (hasFlag · Condition.memoryFault.bit) hkept).trans
    ((hasFlag_or_bit s.link.conditionsPending .memoryFault .memoryFault).trans ?_)
  rw [decide_eq_true rfl, Bool.or_true]

/-- A timeout counts one memory fault, leaves MEMORY_FAULT pending, and leaves the device alone (R162). -/
theorem runBlocks_timesOut (f : InFlight) (s : State) :
    let t := runBlocks (operationTimesOut f s)
    t.port.faultCount = min (s.port.faultCount + 1) 0xFFFFFFFF ∧ t.link.conditionsPending &&& 0x04 ≠ 0 ∧
      t.device = s.device := by
  obtain ⟨p, k, hends⟩ := operationEnds_timeout_outside f (countMemoryFault s)
  have houtside : (runBlocks (operationTimesOut f s)).outside =
      (((countMemoryFault s).mapParams fun _ => p).mapKeys fun _ => k).outside := (runBlocks_outside _).trans hends
  obtain ⟨henv, -, -, -, hcount, -, -⟩ := outside_eq.1 houtside
  obtain ⟨hdevice, -, -, -⟩ := env_eq.1 henv
  have hpending : (runBlocks (operationTimesOut f s)).faultPending = true := by
    rw [runBlocks_faultPending, operationTimesOut, operationEnds_timeout_faultPending, countMemoryFault_eq]
    exact raise_memoryFault_pending s
  refine ⟨hcount.trans ?_, hasFlag_eq_true.1 hpending, hdevice.trans ?_⟩
  · change (countMemoryFault s).port.faultCount = _
    rw [countMemoryFault_eq]
  · change (countMemoryFault s).device = _
    rw [countMemoryFault_eq]

/-! ## Outcomes that nothing follows -/

theorem timedOut_blocksWait {s : State} (hq : s.quiet) : s.timedOut.blocksWait :=
  blocksWait_same (quiet_blocksWait hq) rfl rfl rfl rfl rfl rfl

/-- A timeout of a dropped outcome frees the slot and is counted; the device may have been cut off (R162). -/
theorem runBlocks_timesOut_dropped {f : InFlight} {s : State} (d : Device) (hd : f.dropped = true) (hq : s.quiet)
    (hc : s.port.chosen = none) :
    runBlocks (operationTimesOut f { s with device := d }) = { s.timedOut with device := d } := by
  have hlink : (raise .memoryFault { s with device := d }).link = (raise .memoryFault s).link :=
    raise_congr rfl rfl rfl rfl rfl
  have htimed : ({ s with device := d } : State).timedOut = { s.timedOut with device := d } := by
    simp only [State.timedOut, hlink]
  rw [operationTimesOut_dropped hd, htimed]
  exact runBlocks_nothingAsked (t := { s.timedOut with device := d })
    (blocksWait_same (quiet_blocksWait hq) rfl rfl rfl rfl rfl rfl)
    (headWaits_congr (s := s) rfl rfl rfl (quiet_headWaits hq)) hc

/-- An IMAGE_READ that times out is answered MEMORY_FAULT (R165). -/
theorem runBlocks_timesOut_imageRead {f : InFlight} {s : State} {tag : Byte} {a n : Nat} (hd : f.dropped = false)
    (hr : f.requester = .link) (hi : s.port.items = [.imageRead tag a n]) (hq : s.quiet) (hc : s.port.chosen = none) :
    runBlocks (operationTimesOut f s) = { s.timedOut with
      port := { s.timedOut.port with items := [], headBegun := false }
      link := s.timedOut.link.withReply s.now kindImageRead tag [replyCodeByte .memoryFault] } := by
  rw [operationTimesOut_link hd hr hi]
  exact runBlocks_itemEnds (u := s.timedOut) hi kindImageRead tag .memoryFault [] (timedOut_blocksWait hq) hc

/-! ## The recovery scan (R158) -/

/-- The journal after a scan that failed (R158). -/
def Journal.scanFailed (j : Journal) (count : Nat) : Journal :=
  { j with
    scan := none, memoryFailed := true, current := none, nextSector := none, blankCount := 0
    sectors := List.replicate count ⟨.blank, none⟩
    cursorSector := 0, cursorSlot := j.appendPoint }

/-- A table without serials has no sector in serial order. -/
theorem bySerial_blank {j : Journal} {count : Nat} (h : j.sectors = List.replicate count ⟨.blank, none⟩) :
    j.bySerial = [] := by
  have hnone : (j.sectors.zipIdx.filterMap fun ri => ri.1.serial.map fun n => (ri.2, n)) = [] := by
    refine List.filterMap_eq_nil_iff.mpr fun ri hri => ?_
    have hmem : ri.1 ∈ j.sectors := List.fst_mem_of_mem_zipIdx hri
    rw [h] at hmem
    rw [(List.mem_replicate.1 hmem).2]
    rfl
  rw [Journal.bySerial, hnone]
  rfl

/-- Without serials the read cursor is at the append point (R155, log 24). -/
theorem setCursor_blank {j : Journal} {count : Nat} (h : j.sectors = List.replicate count ⟨.blank, none⟩) :
    j.setCursor = { j with cursorSector := 0, cursorSlot := j.appendPoint } := by
  rw [Journal.setCursor, bySerial_blank h]
  rfl

/-- A scan that fails with no reply owed: JOURNAL_LOW is raised, and start-up ends where it was the start-up's. -/
theorem scanFailed_eq {s : State} (hreplies : s.journal.scanReplies = []) :
    scanFailed s = { s with
      link := (raise .journalLow s).link
      journal := s.journal.scanFailed s.params.journalCount
      job := { s.job with state := if s.boot = .recoveryScan then .noJob else s.job.state }
      boot := if s.boot = .recoveryScan then .done else s.boot } := by
  let j : Journal := { s.journal with
    memoryFailed := true
    sectors := List.replicate s.params.journalCount ⟨.blank, none⟩
    current := none, nextSector := none, blankCount := 0 }
  have hcursor : j.setCursor = { j with cursorSector := 0, cursorSlot := j.appendPoint } :=
    setCursor_blank (count := s.params.journalCount) rfl
  have hlow : testJournalLow { s with journal := j.setCursor } =
      { s with journal := j.setCursor, link := (raise .journalLow s).link } := by
    rw [testJournalLow_low (by rw [hcursor]; exact Nat.zero_le _), raise_link,
      raise_congr (s := s) (t := { s with journal := j.setCursor }) rfl rfl rfl rfl rfl]
  have hfails : scanFailed s = scanOver true (testJournalLow { s with journal := j.setCursor }) := rfl
  rw [hfails, hlow, hcursor]
  simp only [scanOver, State.mapJournal, hreplies, j, List.foldl_nil]
  by_cases hboot : s.boot = .recoveryScan
  · simp only [endBoot, hboot, if_true, State.mapJob, State.setBoot, Journal.scanFailed, hreplies]
  · simp only [endBoot, hboot, if_false, Journal.scanFailed, hreplies]

/-- A READ of the recovery scan that times out ends it (R158). -/
theorem runBlocks_timesOut_scan {f : InFlight} {s : State} {stage : ScanStage} (hd : f.dropped = false)
    (hr : f.requester = .journal) (hi : s.port.items = []) (hmode : s.journal.mode = .idle)
    (hreplies : s.journal.scanReplies = []) (hscan : s.journal.scan = some stage) (hread : ∀ todo, stage ≠ .voids todo)
    (hq : s.quiet) (hc : s.port.chosen = none) :
    runBlocks (operationTimesOut f s) = { s.timedOut with
      link := (raise .journalLow (raise .memoryFault s)).link
      journal := s.journal.scanFailed s.params.journalCount
      job := { s.job with state := if s.boot = .recoveryScan then .noJob else s.job.state }
      boot := if s.boot = .recoveryScan then .done else s.boot } := by
  have htimeout : journalOutcome .timeout s.timedOut = scanFailed s.timedOut := by
    have hstage : scanTimeout stage s.timedOut = scanFailed s.timedOut := by
      cases stage with
      | voids todo => exact absurd rfl (hread todo)
      | classify | slots | latest => rfl
    have hscan' : s.timedOut.journal.scan = some stage := hscan
    rw [← hstage]
    simp only [journalOutcome, hscan']
  have hlink : (raise .journalLow s.timedOut).link = (raise .journalLow (raise .memoryFault s)).link := by
    rw [raise_link .memoryFault s]
    exact raise_congr rfl rfl rfl rfl rfl
  rw [operationTimesOut_journal hd hr, htimeout, scanFailed_eq (s := s.timedOut) hreplies, hlink]
  refine runBlocks_nothingAsked (blocksWait_journal (quiet_blocksWait hq) rfl rfl rfl ?_ rfl rfl) (.inr (.inl hi)) hc
  have hidle : (s.journal.scanFailed s.params.journalCount).mode = .idle := hmode
  simp only [journalStep, State.timedOut, hidle, ite_self]

/-- Settles O41: the count and the condition by what the blocks' work keeps, the requesters' parts case by case. -/
theorem timeoutsAreCounted : Obligations.TimeoutsAreCounted := by
  intro s f hm hf counted port raised freed
  refine ⟨fun hnot => ⟨exec_readyTimeout_not hf ?_, (exec_completionTimeout hf).trans (if_neg ?_)⟩,
    fun hphase hover => ?_, fun hphase hover => ?_, fun hphase hover hd hq hc => ⟨?_, ?_⟩⟩
  · rintro ⟨hphase, hover⟩
    rcases hnot with hearly | htransfer
    · omega
    · rw [hphase] at htransfer
      cases htransfer
  · rintro ⟨hphase, hover⟩
    rcases hnot with hearly | htransfer
    · omega
    · rw [hphase] at htransfer
      cases htransfer
  · obtain ⟨hcount, hpending, hdevice⟩ := runBlocks_timesOut f s
    refine ⟨_, exec_readyTimeout hf hphase hover, hcount, hpending, hdevice, fun hd hq hc => ?_⟩
    rw [hdevice]
    exact runBlocks_timesOut_dropped s.device hd hq hc
  · obtain ⟨hcount, hpending, hdevice⟩ := runBlocks_timesOut f (s.cutOff f)
    refine ⟨_, (exec_completionTimeout hf).trans (if_pos ⟨hphase, hover⟩), hcount, hpending, fun hd hq hc => ?_,
      fun a bytes hop b hb => ?_, fun n hop b hb => ?_⟩
    · rw [hdevice]
      exact runBlocks_timesOut_dropped (s.device.cutOff f.op) hd hq hc
    · rw [hdevice, State.cutOff, hop]
      exact cutOff_program_outside a bytes hm hb
    · rw [hdevice, State.cutOff, hop]
      exact cutOff_erase_outside n hm hb
  · intro hr _ tag a n hi
    rw [exec_readyTimeout hf hphase hover, runBlocks_timesOut_imageRead hd hr hi hq hc]
    rfl
  · intro hr hi hmode hreplies stage hscan hread
    rw [exec_readyTimeout hf hphase hover, runBlocks_timesOut_scan hd hr hi hmode hreplies hscan hread hq hc]
    rfl

end Sys2Proof.Machine
end
